-- ==== Sys2Proof/Word.lean ====
section
/-! DEFINITION. The word types of the block (00_scope.md R6, R7): 32-bit registers and offsets, 8-bit serial
bytes, 30-bit word indices, 31-bit access keys, and the 30 slots of the register bank. -/

namespace Sys2Proof

/-- A register value or a byte offset: 32 bits, unsigned (R6, R7). -/
abbrev Word := BitVec 32

/-- The serial data unit: 8 bits (R6, `DATA_W`). -/
abbrev Byte := BitVec 8

/-- The word index of an access, `offset[31:2]` (R82 a). -/
abbrev WordIndex := BitVec 30

/-- The access key `{we, widx}` of the opcode table (R81). -/
abbrev Key := BitVec 31

/-- The index of one of the 30 slots of the register bank (R20, R21). -/
abbrev Slot := Fin 30

end Sys2Proof
end

