-- ==== Sys2Proof/Machine/Flags.lean ====
section
/-! DEFINITION. The status flags, the pending bits of IP (10_state.md R38, R39), and the level of the interrupt
output they and IE give (42_interrupt_logic.md R160). Pure functions on words. -/

namespace Sys2Proof

/-- TXWM, bit 0 of IE and of IP (10_state.md R37, R38). -/
def txwm (v : Word) : Bool := v.getLsbD 0

/-- RXWM, bit 1 of IE and of IP (10_state.md R37, R38). -/
def rxwm (v : Word) : Bool := v.getLsbD 1

/-- IP with TXWM set (41_transfer_engine.md R140). -/
def setTxwm (ip : Word) : Word := ip ||| 0x00000001

/-- IP with RXWM set (42_interrupt_logic.md R163). -/
def setRxwm (ip : Word) : Word := ip ||| 0x00000002

/-- `(IP & IE) != 0`, over all 32 bits (R160, D13). -/
def irqLevel (ip ie : Word) : Bool := ip &&& ie != 0x00000000

end Sys2Proof
end

