-- ==== Sys2Proof/Machine/Operands.lean ====
section
/-! DEFINITION. Operand assembly (30_encoding.md R82): word index, alignment, transmit byte, received byte, and the
level of one chip-select line (43_chip_select.md R180). Pure functions on words (00_scope.md R9). -/

namespace Sys2Proof

/-- `offset[1:0] == 0` (20_memory.md R62). -/
def aligned (offset : Word) : Bool := offset.extractLsb' 0 2 == 0

/-- `widx = offset[31:2]` (R82 a). -/
def wordIndex (offset : Word) : WordIndex := offset.extractLsb' 2 30

/-- The aligned byte offset of a word index, `{widx, 0b00}` (R82 a). -/
def offsetOf (widx : WordIndex) : Word := widx ++ 0#2

/-- The access key `{we, widx}` (R81): `key[30] = we`, `key[29:0] = widx`. -/
def accessKey (we : BitVec 1) (widx : WordIndex) : Key := we ++ widx

/-- The byte to send, `wdata[7:0]`; `wdata[31:8]` is discarded (R82 c, D8). -/
def txByte (wdata : Word) : Byte := wdata.extractLsb' 0 8

/-- `zext_32(b)` (00_scope.md R8). -/
def zext32 (b : Byte) : Word := b.setWidth 32

/-- `x[CSID] == i`, a comparison of all 32 bits with the zero-extended index (R180, R82 f). -/
def csSelected (csid : Word) (i : Nat) : Bool := csid == BitVec.ofNat 32 i

/-- `x[CSDEF][i] ^ selected`: the idle level of line `i`, inverted when the line is selected (R180, D15). -/
def csLevel (csdef csid : Word) (i : Nat) : Bool := csdef.getLsbD i ^^ csSelected csid i

/-- The levels of lines 0 to `n - 1` (R180). -/
def csLevels (n : Nat) (csdef csid : Word) : List Bool := (List.range n).map (csLevel csdef csid)

end Sys2Proof
end

