-- ==== Sys2Proof/Config.lean ====
section
/-! DEFINITION. What an implementation fixes (00_scope.md R6), the observable events (R12), and the one value the
spec leaves free: the byte the serial collaborator answers (41_transfer_engine.md R141). -/

namespace Sys2Proof

/-- The OPEN parameters of 00_scope.md R6, fixed at construction (10_state.md R49). DESIGN CHOICE, safe: they are
held in State so that every statement quantifies over them (log 1). -/
structure Params where
  /-- `NUM_CS - 1`: the index of the last chip-select line. The type admits exactly `NUM_CS` = 1 to 32
  (43_chip_select.md R188, D16); any other number is a configuration that cannot be written (U13). -/
  lastCs : Fin 32
  /-- `IP_RD_RETURNS_UPDATED`: a read of IP returns the value after RXWM is set (R163, D12). -/
  ipRdReturnsUpdated : Bool
  /-- `RXDATA_RD_SETS_RXWM`: a read of RXDATA sets IP.RXWM (R143, D11). -/
  rxdataRdSetsRxwm : Bool
  deriving DecidableEq, Repr

/-- `NUM_CS`, the number of chip-select lines (R6, R188). -/
def Params.numCs (p : Params) : Nat := p.lastCs.val + 1

/-- The defaults of 00_scope.md R6: one line, `IP_RD_RETURNS_UPDATED` true, `RXDATA_RD_SETS_RXWM` false. -/
def Params.default : Params := { lastCs := 0, ipRdReturnsUpdated := true, rxdataRdSetsRxwm := false }

/-- What the environment can observe of the block besides read data (00_scope.md R12). -/
inductive Event where
  /-- `Exch(tx, rx)`: one byte exchanged, `tx` sent and `rx` answered. -/
  | exch (tx rx : Byte)
  /-- `Irq(level)`: the interrupt output changed to `level`. -/
  | irq (level : Bool)
  /-- `Cs(i, level)`: chip-select line `i` changed to `level`. -/
  | cs (line : Nat) (level : Bool)
  deriving DecidableEq, Repr

/-- FREE VALUE. The byte the serial collaborator answers to `tx` (R141, D23, U1). It has no body: nothing
constrains it. It may depend on `tx`, on every earlier exchange (in `history`) and on the chip-select levels, as
R141 says; the history grows with every exchange, so every exchange has a fresh answer (log 2). -/
opaque Config.serialAnswer (history : List Event) (csLevels : List Bool) (tx : Byte) : Byte

end Sys2Proof
end

