-- ==== Sys2Proof/Machine/Slots.lean ====
section
/-! DEFINITION. The names of the 30 slots of the register bank and their word indices (10_state.md R21, R22). The
14 unnamed slots carry the spec's names `RSVD<nn>`. -/

namespace Sys2Proof

abbrev Slot.sckdiv : Slot := 0
abbrev Slot.sckmode : Slot := 1
abbrev Slot.rsvd02 : Slot := 2
abbrev Slot.rsvd03 : Slot := 3
abbrev Slot.csid : Slot := 4
abbrev Slot.csdef : Slot := 5
abbrev Slot.csmode : Slot := 6
abbrev Slot.rsvd07 : Slot := 7
abbrev Slot.rsvd08 : Slot := 8
abbrev Slot.rsvd09 : Slot := 9
abbrev Slot.delay0 : Slot := 10
abbrev Slot.delay1 : Slot := 11
abbrev Slot.rsvd12 : Slot := 12
abbrev Slot.rsvd13 : Slot := 13
abbrev Slot.rsvd14 : Slot := 14
abbrev Slot.rsvd15 : Slot := 15
abbrev Slot.fmt : Slot := 16
abbrev Slot.rsvd17 : Slot := 17
abbrev Slot.txdata : Slot := 18
abbrev Slot.rxdata : Slot := 19
abbrev Slot.txmark : Slot := 20
abbrev Slot.rxmark : Slot := 21
abbrev Slot.rsvd22 : Slot := 22
abbrev Slot.rsvd23 : Slot := 23
abbrev Slot.fctrl : Slot := 24
abbrev Slot.ffmt : Slot := 25
abbrev Slot.rsvd26 : Slot := 26
abbrev Slot.rsvd27 : Slot := 27
abbrev Slot.ie : Slot := 28
abbrev Slot.ip : Slot := 29

/-- The byte offset of a slot, `4 * i` (10_state.md R21). -/
def Slot.offset (w : Slot) : Word := BitVec.ofNat 32 (4 * w.val)

end Sys2Proof
end

