-- ==== Sys2Proof/Machine/ResetValues.lean ====
section
/-! DEFINITION. The reset value of every slot and of every output (10_state.md R48, 70_reset_and_hazards.md R220). -/

namespace Sys2Proof

/-- All slots zero (R220, first line). -/
def zeroBank : Vector Word 30 := Vector.replicate 30 0x00000000

/-- The bank after RESET: TXMARK = 1, CSDEF = 1, IP = 3, every other slot 0 (R48). -/
def resetBank : Vector Word 30 :=
  ((zeroBank.set Slot.txmark 0x00000001).set Slot.csdef 0x00000001).set Slot.ip 0x00000003

/-- `irq_q` after RESET (R48, D19). -/
def resetIrq : Bool := false

/-- `cs_q` after RESET: every one of the `NUM_CS` lines at level 0 (R48, D18). -/
def resetCs (p : Params) : List Bool := List.replicate p.numCs false

end Sys2Proof
end

