-- ==== Sys2Proof/Syntax.lean ====
section
/-! DEFINITION. The operations of the block and the transactions that select them (30_encoding.md R80, R83). -/

namespace Sys2Proof

/-- A transaction the host applies at the block's ports (R80, 00_scope.md R13): format ACC, a read or a write of
`size` bytes at a byte offset from BASE, or format EVT, the event `rst`. Not every transaction is an operation
(R84 c); `decode` says which. -/
inductive Txn where
  | read (offset : Word) (size : Nat)
  | write (offset : Word) (size : Nat) (wdata : Word)
  | rst
  deriving DecidableEq, Repr

/-- The 63 operations, one per row of spec/opcode_table.json and in its order (R83). A write carries its 32-bit
`wdata`; an out-of-range access also carries its word index. -/
inductive Instr where
  | rdSckdiv
  | wrSckdiv (wdata : Word)
  | rdSckmode
  | wrSckmode (wdata : Word)
  | rdRsvd02
  | wrRsvd02 (wdata : Word)
  | rdRsvd03
  | wrRsvd03 (wdata : Word)
  | rdCsid
  | wrCsid (wdata : Word)
  | rdCsdef
  | wrCsdef (wdata : Word)
  | rdCsmode
  | wrCsmode (wdata : Word)
  | rdRsvd07
  | wrRsvd07 (wdata : Word)
  | rdRsvd08
  | wrRsvd08 (wdata : Word)
  | rdRsvd09
  | wrRsvd09 (wdata : Word)
  | rdDelay0
  | wrDelay0 (wdata : Word)
  | rdDelay1
  | wrDelay1 (wdata : Word)
  | rdRsvd12
  | wrRsvd12 (wdata : Word)
  | rdRsvd13
  | wrRsvd13 (wdata : Word)
  | rdRsvd14
  | wrRsvd14 (wdata : Word)
  | rdRsvd15
  | wrRsvd15 (wdata : Word)
  | rdFmt
  | wrFmt (wdata : Word)
  | rdRsvd17
  | wrRsvd17 (wdata : Word)
  | rdTxdata
  | wrTxdata (wdata : Word)
  | rdRxdata
  | wrRxdata (wdata : Word)
  | rdTxmark
  | wrTxmark (wdata : Word)
  | rdRxmark
  | wrRxmark (wdata : Word)
  | rdRsvd22
  | wrRsvd22 (wdata : Word)
  | rdRsvd23
  | wrRsvd23 (wdata : Word)
  | rdFctrl
  | wrFctrl (wdata : Word)
  | rdFfmt
  | wrFfmt (wdata : Word)
  | rdRsvd26
  | wrRsvd26 (wdata : Word)
  | rdRsvd27
  | wrRsvd27 (wdata : Word)
  | rdIe
  | wrIe (wdata : Word)
  | rdIp
  | wrIp (wdata : Word)
  | rdOor (widx : WordIndex)
  | wrOor (widx : WordIndex) (wdata : Word)
  | reset
  deriving DecidableEq, Repr

end Sys2Proof
end

