-- ==== Sys2Proof/Machine/State.lean ====
section
/-! DEFINITION. The state of the block, the reasons a step can stop, and the state after reset. The spec's own state
is the bank, `irq_q` and `cs_q` and nothing else (10_state.md R20); the other fields are what the model needs beside
it: the parameters (R6), whether a RESET has been applied (R222), the read-data port (R13), the observed events (R12),
and the environment's inputs (R10, R141). -/

namespace Sys2Proof.Machine

/-- The machine. -/
structure State where
  /-- The register bank `x[0..29]` (10_state.md R20 a, R21). -/
  bank : Vector Word 30
  /-- `irq_q`, the level last driven on the `irq` output (10_state.md R40). -/
  irq : Bool
  /-- `cs_q[0..NUM_CS-1]`, the levels last driven on the chip-select outputs (10_state.md R41). -/
  cs : List Bool
  /-- The OPEN parameters of 00_scope.md R6; no operation changes them (10_state.md R49). DESIGN CHOICE (log 1). -/
  params : Params
  /-- A RESET has been applied (70_reset_and_hazards.md R222). DESIGN CHOICE (log 6). -/
  live : Bool
  /-- The port `acc.rdata` (00_scope.md R13): the value the last operation returned, none where it returned no value.
  The model's own field. DESIGN CHOICE (log 4). -/
  rdata : Option Word
  /-- The observable events so far, oldest first (00_scope.md R12). The model's own field. DESIGN CHOICE (log 5). -/
  trace : List Event
  /-- The bytes the serial collaborator is set to answer next (41_transfer_engine.md R141); when there are none, the
  answer is a free value. The model's own field. DESIGN CHOICE (log 2). -/
  answers : List Byte
  /-- The transactions the host will apply, in order (00_scope.md R10, 20_memory.md R68). The model's own field.
  DESIGN CHOICE (log 3). -/
  pending : List Txn
  deriving DecidableEq, Repr

/-- The faults of the block: none. "The block raises no synchronous exception, bus error or fault of any kind"
(60_exceptions.md R200), so no step ever ends in one. -/
inductive Fault where
  deriving DecidableEq, Repr

/-- Why the model gives a step no meaning. -/
inductive Refusal where
  /-- Raised by `exec` for an instruction without a meaning, by its mnemonic. Safe. No arm of this model raises it. -/
  | notModelled (mnemonic : String)
  /-- Raised by `step` for an access that is not 4 bytes wide, which is no operation of the block
  (20_memory.md R63, D5). Safe: neither candidate meaning is given to it. -/
  | badSize
  /-- Raised by `step` for an access whose offset is not a multiple of 4, which is no operation of the block
  (20_memory.md R62, D5). Safe: neither candidate meaning is given to it. -/
  | misaligned
  /-- Raised by `step` for an operation other than RESET applied before the first RESET
  (70_reset_and_hazards.md R222, D20). Safe: the state before the first RESET is unspecified. -/
  | beforeFirstReset
  deriving DecidableEq, Repr

/-- The machine right after RESET with parameters `p`: the values of 10_state.md R48, nothing observed yet, and no
input from the environment. -/
def State.resetWith (p : Params) : State :=
  { bank := resetBank
    irq := resetIrq
    cs := resetCs p
    params := p
    live := true
    rdata := none
    trace := []
    answers := []
    pending := [] }

/-- The machine right after RESET with the default parameters of 00_scope.md R6. -/
def State.reset : State := State.resetWith Params.default

end Sys2Proof.Machine
end

