-- ==== Sys2Proof/Machine/Ops.lean ====
section
/-! DEFINITION. The named operations over the state (00_scope.md R8): slot reads and writes,
`UpdateIrq`, `UpdateCs`, `Exchange`, and the two ways an operation completes. The block takes no exception
(60_exceptions.md R200), so there is no operation for taking or returning from one; what it does when an interrupt
condition arises is `updateIrq` and nothing else (R203). -/

namespace Sys2Proof.Machine

/-- The outcome type of every meaning. -/
abbrev Result := Host.Outcome State Fault Refusal

/-- `x[w]` (R8). -/
def State.reg (s : State) (w : Slot) : Word := s.bank[w]

/-- `x[w] <- v` (R8). -/
def State.setReg (s : State) (w : Slot) (v : Word) : State := { s with bank := s.bank.set w v }

/-- `NUM_CS` (R6). -/
def State.numCs (s : State) : Nat := s.params.numCs

/-- The level `UpdateIrq` computes (R160). -/
def State.irqNow (s : State) : Bool := irqLevel (s.reg Slot.ip) (s.reg Slot.ie)

/-- The event `UpdateIrq` emits: one where the level differs from `irq_q`, else none (R160). -/
def State.irqEvents (s : State) : List Event :=
  if s.irqNow = s.irq then [] else [.irq s.irqNow]

/-- `UpdateIrq()` (42_interrupt_logic.md R160). -/
def State.updateIrq (s : State) : State :=
  { s with irq := s.irqNow, trace := s.trace ++ s.irqEvents }

/-- The level `UpdateCs` computes for line `i` (R180). -/
def State.csNow (s : State) (i : Nat) : Bool := csLevel (s.reg Slot.csdef) (s.reg Slot.csid) i

/-- The events `UpdateCs` emits, in index order: one for each line whose level differs from `cs_q[i]` (R180, D31). -/
def State.csEvents (s : State) : List Event :=
  (List.range s.numCs).filterMap fun i =>
    if s.cs[i]? = some (s.csNow i) then none else some (.cs i (s.csNow i))

/-- `UpdateCs()` (43_chip_select.md R180). -/
def State.updateCs (s : State) : State :=
  { s with
    cs := csLevels s.numCs (s.reg Slot.csdef) (s.reg Slot.csid)
    trace := s.trace ++ s.csEvents }

/-- The byte the serial collaborator answers to `tx` (41_transfer_engine.md R141): the next byte it is set to answer,
else the free value. -/
def State.answer (s : State) (tx : Byte) : Byte :=
  match s.answers with
  | rx :: _ => rx
  | [] => Config.serialAnswer s.trace s.cs tx

/-- `Exchange(tx)`: the answer is used up and the exchange is recorded (R141). It never fails. -/
def State.exchange (s : State) (tx : Byte) : State :=
  { s with answers := s.answers.tail, trace := s.trace ++ [.exch tx (s.answer tx)] }

/-- `rx = Exchange(tx)`, then `x[RXDATA] <- zext_32(rx)` (R140, D9). -/
def State.receive (s : State) (tx : Byte) : State := (s.exchange tx).setReg Slot.rxdata (zext32 (s.answer tx))

/-- The operation completes and returns no value. -/
def State.complete (s : State) : Result := .next { s with rdata := none }

/-- The operation completes with `return v` (R8). -/
def State.returns (s : State) (v : Word) : Result := .next { s with rdata := some v }

/-- A read with no side effect: `return x[w]` (40_register_bank.md R100). -/
def readSlot (w : Slot) (s : State) : Result := s.returns (s.reg w)

/-- A write that stores and does nothing else: `x[w] <- wdata` (40_register_bank.md R100). -/
def writeSlot (w : Slot) (wdata : Word) (s : State) : Result := (s.setReg w wdata).complete

/-- `x[IP] <- x[IP] | 2`, then `UpdateIrq()`: the side effect of a read that sets RXWM (R163, R143). -/
def State.pendRx (s : State) : State := (s.setReg Slot.ip (setRxwm (s.reg Slot.ip))).updateIrq

/-- `x[IP] <- x[IP] | 1`, then `UpdateIrq()`: the end of a transfer (R140). -/
def State.pendTx (s : State) : State := (s.setReg Slot.ip (setTxwm (s.reg Slot.ip))).updateIrq

/-- The unit a checkpoint would save: `x[0]` to `x[29]` in index order (10_state.md R44). -/
def State.persisted (s : State) : List Word := s.bank.toList

end Sys2Proof.Machine
end

