-- ==== Sys2Proof/Machine/ChipSelect.lean ====
section
/-! DEFINITION. The Chip-Select Driver operations (43_chip_select.md R181 to R186): CSID, CSDEF and CSMODE. -/

namespace Sys2Proof.Machine

/-- `RD.CSID` (R181). -/
def execRdCsid (s : State) : Result := readSlot Slot.csid s

/-- `WR.CSID` (R182): store, then `UpdateCs()`. -/
def execWrCsid (wdata : Word) (s : State) : Result := (s.setReg Slot.csid wdata).updateCs.complete

/-- `RD.CSDEF` (R183). -/
def execRdCsdef (s : State) : Result := readSlot Slot.csdef s

/-- `WR.CSDEF` (R184): store, then `UpdateCs()`. -/
def execWrCsdef (wdata : Word) (s : State) : Result := (s.setReg Slot.csdef wdata).updateCs.complete

/-- `RD.CSMODE` (R185). -/
def execRdCsmode (s : State) : Result := readSlot Slot.csmode s

/-- `WR.CSMODE` (R186): store, then `UpdateCs()`. -/
def execWrCsmode (wdata : Word) (s : State) : Result := (s.setReg Slot.csmode wdata).updateCs.complete

end Sys2Proof.Machine
end

