-- ==== Sys2Proof/Machine/InterruptLogic.lean ====
section
/-! DEFINITION. The Interrupt Logic operations (42_interrupt_logic.md R161 to R164): IE and IP. -/

namespace Sys2Proof.Machine

/-- `RD.IE` (R161). -/
def execRdIe (s : State) : Result := readSlot Slot.ie s

/-- `WR.IE` (R162): store, then `UpdateIrq()`. -/
def execWrIe (wdata : Word) (s : State) : Result := (s.setReg Slot.ie wdata).updateIrq.complete

/-- `RD.IP` (R163): set RXWM, `UpdateIrq()`, and return IP as it is after the setting where `IP_RD_RETURNS_UPDATED` is
true, else as it was before (D12). -/
def execRdIp (s : State) : Result :=
  let old := s.reg Slot.ip
  let s₁ := s.pendRx
  s₁.returns (if s.params.ipRdReturnsUpdated then s₁.reg Slot.ip else old)

/-- `WR.IP` (R164): store all 32 bits, then `UpdateIrq()` (D14). -/
def execWrIp (wdata : Word) (s : State) : Result := (s.setReg Slot.ip wdata).updateIrq.complete

end Sys2Proof.Machine
end

