-- ==== Sys2Proof/Machine/RegisterBank.lean ====
section
/-! DEFINITION. The Register Bank operations (40_register_bank.md R100 to R131): the seven named stored-only registers, the
14 unnamed slots, and the out-of-range locations. -/

namespace Sys2Proof.Machine

/-- `RD.SCKDIV` (R101). -/
def execRdSckdiv (s : State) : Result := readSlot Slot.sckdiv s

/-- `WR.SCKDIV` (R102). -/
def execWrSckdiv (wdata : Word) (s : State) : Result := writeSlot Slot.sckdiv wdata s

/-- `RD.SCKMODE` (R103). -/
def execRdSckmode (s : State) : Result := readSlot Slot.sckmode s

/-- `WR.SCKMODE` (R104). -/
def execWrSckmode (wdata : Word) (s : State) : Result := writeSlot Slot.sckmode wdata s

/-- `RD.DELAY0` (R105). -/
def execRdDelay0 (s : State) : Result := readSlot Slot.delay0 s

/-- `WR.DELAY0` (R106). -/
def execWrDelay0 (wdata : Word) (s : State) : Result := writeSlot Slot.delay0 wdata s

/-- `RD.DELAY1` (R107). -/
def execRdDelay1 (s : State) : Result := readSlot Slot.delay1 s

/-- `WR.DELAY1` (R108). -/
def execWrDelay1 (wdata : Word) (s : State) : Result := writeSlot Slot.delay1 wdata s

/-- `RD.FMT` (R109). -/
def execRdFmt (s : State) : Result := readSlot Slot.fmt s

/-- `WR.FMT` (R110). -/
def execWrFmt (wdata : Word) (s : State) : Result := writeSlot Slot.fmt wdata s

/-- `RD.FCTRL` (R111). -/
def execRdFctrl (s : State) : Result := readSlot Slot.fctrl s

/-- `WR.FCTRL` (R112). -/
def execWrFctrl (wdata : Word) (s : State) : Result := writeSlot Slot.fctrl wdata s

/-- `RD.FFMT` (R113). -/
def execRdFfmt (s : State) : Result := readSlot Slot.ffmt s

/-- `WR.FFMT` (R114). -/
def execWrFfmt (wdata : Word) (s : State) : Result := writeSlot Slot.ffmt wdata s

/-- `RD.RSVD02` (R120). -/
def execRdRsvd02 (s : State) : Result := readSlot Slot.rsvd02 s

/-- `WR.RSVD02` (R121). -/
def execWrRsvd02 (wdata : Word) (s : State) : Result := writeSlot Slot.rsvd02 wdata s

/-- `RD.RSVD03` (R120). -/
def execRdRsvd03 (s : State) : Result := readSlot Slot.rsvd03 s

/-- `WR.RSVD03` (R121). -/
def execWrRsvd03 (wdata : Word) (s : State) : Result := writeSlot Slot.rsvd03 wdata s

/-- `RD.RSVD07` (R120). -/
def execRdRsvd07 (s : State) : Result := readSlot Slot.rsvd07 s

/-- `WR.RSVD07` (R121). -/
def execWrRsvd07 (wdata : Word) (s : State) : Result := writeSlot Slot.rsvd07 wdata s

/-- `RD.RSVD08` (R120). -/
def execRdRsvd08 (s : State) : Result := readSlot Slot.rsvd08 s

/-- `WR.RSVD08` (R121). -/
def execWrRsvd08 (wdata : Word) (s : State) : Result := writeSlot Slot.rsvd08 wdata s

/-- `RD.RSVD09` (R120). -/
def execRdRsvd09 (s : State) : Result := readSlot Slot.rsvd09 s

/-- `WR.RSVD09` (R121). -/
def execWrRsvd09 (wdata : Word) (s : State) : Result := writeSlot Slot.rsvd09 wdata s

/-- `RD.RSVD12` (R120). -/
def execRdRsvd12 (s : State) : Result := readSlot Slot.rsvd12 s

/-- `WR.RSVD12` (R121). -/
def execWrRsvd12 (wdata : Word) (s : State) : Result := writeSlot Slot.rsvd12 wdata s

/-- `RD.RSVD13` (R120). -/
def execRdRsvd13 (s : State) : Result := readSlot Slot.rsvd13 s

/-- `WR.RSVD13` (R121). -/
def execWrRsvd13 (wdata : Word) (s : State) : Result := writeSlot Slot.rsvd13 wdata s

/-- `RD.RSVD14` (R120). -/
def execRdRsvd14 (s : State) : Result := readSlot Slot.rsvd14 s

/-- `WR.RSVD14` (R121). -/
def execWrRsvd14 (wdata : Word) (s : State) : Result := writeSlot Slot.rsvd14 wdata s

/-- `RD.RSVD15` (R120). -/
def execRdRsvd15 (s : State) : Result := readSlot Slot.rsvd15 s

/-- `WR.RSVD15` (R121). -/
def execWrRsvd15 (wdata : Word) (s : State) : Result := writeSlot Slot.rsvd15 wdata s

/-- `RD.RSVD17` (R120). -/
def execRdRsvd17 (s : State) : Result := readSlot Slot.rsvd17 s

/-- `WR.RSVD17` (R121). -/
def execWrRsvd17 (wdata : Word) (s : State) : Result := writeSlot Slot.rsvd17 wdata s

/-- `RD.RSVD22` (R120). -/
def execRdRsvd22 (s : State) : Result := readSlot Slot.rsvd22 s

/-- `WR.RSVD22` (R121). -/
def execWrRsvd22 (wdata : Word) (s : State) : Result := writeSlot Slot.rsvd22 wdata s

/-- `RD.RSVD23` (R120). -/
def execRdRsvd23 (s : State) : Result := readSlot Slot.rsvd23 s

/-- `WR.RSVD23` (R121). -/
def execWrRsvd23 (wdata : Word) (s : State) : Result := writeSlot Slot.rsvd23 wdata s

/-- `RD.RSVD26` (R120). -/
def execRdRsvd26 (s : State) : Result := readSlot Slot.rsvd26 s

/-- `WR.RSVD26` (R121). -/
def execWrRsvd26 (wdata : Word) (s : State) : Result := writeSlot Slot.rsvd26 wdata s

/-- `RD.RSVD27` (R120). -/
def execRdRsvd27 (s : State) : Result := readSlot Slot.rsvd27 s

/-- `WR.RSVD27` (R121). -/
def execWrRsvd27 (wdata : Word) (s : State) : Result := writeSlot Slot.rsvd27 wdata s

/-- `RD.OOR` (R130): returns 0 and does nothing else, at every out-of-range word index. -/
def execRdOor (_widx : WordIndex) (s : State) : Result := s.returns 0x00000000

/-- `WR.OOR` (R131): the write is dropped. -/
def execWrOor (_widx : WordIndex) (_wdata : Word) (s : State) : Result := s.complete

end Sys2Proof.Machine
end

