-- ==== Sys2Proof/Machine/Reset.lean ====
section
/-! DEFINITION. The operation `RESET` (70_reset_and_hazards.md R220). -/

namespace Sys2Proof.Machine

/-- The register part of RESET: every slot to 0, then TXMARK = 1, CSDEF = 1, IP = 3 (R220). -/
def State.resetRegisters (s : State) : State :=
  ((({ s with bank := zeroBank }).setReg Slot.txmark 0x00000001).setReg Slot.csdef 0x00000001).setReg Slot.ip 0x00000003

/-- `RESET` (R220): the registers, then `UpdateIrq()`, then `UpdateCs()`. From here on the other operations have a
meaning (R222). -/
def execReset (s : State) : Result :=
  ({ s.resetRegisters.updateIrq.updateCs with live := true }).complete

end Sys2Proof.Machine
end

