-- ==== Sys2Proof/Machine/TransferEngine.lean ====
section
/-! DEFINITION. The Transfer Engine operations (41_transfer_engine.md R140 to R150): TXDATA, RXDATA and the two watermark
registers, which are storage only (R150). -/

namespace Sys2Proof.Machine

/-- `WR.TXDATA` (R140): store the low byte, exchange it, store the answer, set TXWM, `UpdateIrq()`. -/
def execWrTxdata (wdata : Word) (s : State) : Result :=
  let tx := txByte wdata
  ((s.setReg Slot.txdata (zext32 tx)).receive tx).pendTx.complete

/-- `RD.TXDATA` (R142). -/
def execRdTxdata (s : State) : Result := readSlot Slot.txdata s

/-- `RD.RXDATA` (R143): the last received byte; no exchange (D10). Where `RXDATA_RD_SETS_RXWM` is true it also sets
RXWM and does `UpdateIrq()` (D11). -/
def execRdRxdata (s : State) : Result :=
  let v := s.reg Slot.rxdata
  (if s.params.rxdataRdSetsRxwm then s.pendRx else s).returns v

/-- `WR.RXDATA` (R144). -/
def execWrRxdata (wdata : Word) (s : State) : Result := writeSlot Slot.rxdata wdata s

/-- `RD.TXMARK` (R145). -/
def execRdTxmark (s : State) : Result := readSlot Slot.txmark s

/-- `WR.TXMARK` (R146). -/
def execWrTxmark (wdata : Word) (s : State) : Result := writeSlot Slot.txmark wdata s

/-- `RD.RXMARK` (R147). -/
def execRdRxmark (s : State) : Result := readSlot Slot.rxmark s

/-- `WR.RXMARK` (R148). -/
def execWrRxmark (wdata : Word) (s : State) : Result := writeSlot Slot.rxmark wdata s

end Sys2Proof.Machine
end

