-- ==== Sys2Proof/Machine/Dispatch.lean ====
section
/-! DEFINITION. exec: one arm per operation, in the order of spec/opcode_table.json. -/

namespace Sys2Proof.Machine

def exec (i : Instr) (s : State) : Host.Outcome State Fault Refusal :=
  match i with
  | .rdSckdiv => Sys2Proof.Machine.execRdSckdiv s
  | .wrSckdiv wdata => Sys2Proof.Machine.execWrSckdiv wdata s
  | .rdSckmode => Sys2Proof.Machine.execRdSckmode s
  | .wrSckmode wdata => Sys2Proof.Machine.execWrSckmode wdata s
  | .rdRsvd02 => Sys2Proof.Machine.execRdRsvd02 s
  | .wrRsvd02 wdata => Sys2Proof.Machine.execWrRsvd02 wdata s
  | .rdRsvd03 => Sys2Proof.Machine.execRdRsvd03 s
  | .wrRsvd03 wdata => Sys2Proof.Machine.execWrRsvd03 wdata s
  | .rdCsid => Sys2Proof.Machine.execRdCsid s
  | .wrCsid wdata => Sys2Proof.Machine.execWrCsid wdata s
  | .rdCsdef => Sys2Proof.Machine.execRdCsdef s
  | .wrCsdef wdata => Sys2Proof.Machine.execWrCsdef wdata s
  | .rdCsmode => Sys2Proof.Machine.execRdCsmode s
  | .wrCsmode wdata => Sys2Proof.Machine.execWrCsmode wdata s
  | .rdRsvd07 => Sys2Proof.Machine.execRdRsvd07 s
  | .wrRsvd07 wdata => Sys2Proof.Machine.execWrRsvd07 wdata s
  | .rdRsvd08 => Sys2Proof.Machine.execRdRsvd08 s
  | .wrRsvd08 wdata => Sys2Proof.Machine.execWrRsvd08 wdata s
  | .rdRsvd09 => Sys2Proof.Machine.execRdRsvd09 s
  | .wrRsvd09 wdata => Sys2Proof.Machine.execWrRsvd09 wdata s
  | .rdDelay0 => Sys2Proof.Machine.execRdDelay0 s
  | .wrDelay0 wdata => Sys2Proof.Machine.execWrDelay0 wdata s
  | .rdDelay1 => Sys2Proof.Machine.execRdDelay1 s
  | .wrDelay1 wdata => Sys2Proof.Machine.execWrDelay1 wdata s
  | .rdRsvd12 => Sys2Proof.Machine.execRdRsvd12 s
  | .wrRsvd12 wdata => Sys2Proof.Machine.execWrRsvd12 wdata s
  | .rdRsvd13 => Sys2Proof.Machine.execRdRsvd13 s
  | .wrRsvd13 wdata => Sys2Proof.Machine.execWrRsvd13 wdata s
  | .rdRsvd14 => Sys2Proof.Machine.execRdRsvd14 s
  | .wrRsvd14 wdata => Sys2Proof.Machine.execWrRsvd14 wdata s
  | .rdRsvd15 => Sys2Proof.Machine.execRdRsvd15 s
  | .wrRsvd15 wdata => Sys2Proof.Machine.execWrRsvd15 wdata s
  | .rdFmt => Sys2Proof.Machine.execRdFmt s
  | .wrFmt wdata => Sys2Proof.Machine.execWrFmt wdata s
  | .rdRsvd17 => Sys2Proof.Machine.execRdRsvd17 s
  | .wrRsvd17 wdata => Sys2Proof.Machine.execWrRsvd17 wdata s
  | .rdTxdata => Sys2Proof.Machine.execRdTxdata s
  | .wrTxdata wdata => Sys2Proof.Machine.execWrTxdata wdata s
  | .rdRxdata => Sys2Proof.Machine.execRdRxdata s
  | .wrRxdata wdata => Sys2Proof.Machine.execWrRxdata wdata s
  | .rdTxmark => Sys2Proof.Machine.execRdTxmark s
  | .wrTxmark wdata => Sys2Proof.Machine.execWrTxmark wdata s
  | .rdRxmark => Sys2Proof.Machine.execRdRxmark s
  | .wrRxmark wdata => Sys2Proof.Machine.execWrRxmark wdata s
  | .rdRsvd22 => Sys2Proof.Machine.execRdRsvd22 s
  | .wrRsvd22 wdata => Sys2Proof.Machine.execWrRsvd22 wdata s
  | .rdRsvd23 => Sys2Proof.Machine.execRdRsvd23 s
  | .wrRsvd23 wdata => Sys2Proof.Machine.execWrRsvd23 wdata s
  | .rdFctrl => Sys2Proof.Machine.execRdFctrl s
  | .wrFctrl wdata => Sys2Proof.Machine.execWrFctrl wdata s
  | .rdFfmt => Sys2Proof.Machine.execRdFfmt s
  | .wrFfmt wdata => Sys2Proof.Machine.execWrFfmt wdata s
  | .rdRsvd26 => Sys2Proof.Machine.execRdRsvd26 s
  | .wrRsvd26 wdata => Sys2Proof.Machine.execWrRsvd26 wdata s
  | .rdRsvd27 => Sys2Proof.Machine.execRdRsvd27 s
  | .wrRsvd27 wdata => Sys2Proof.Machine.execWrRsvd27 wdata s
  | .rdIe => Sys2Proof.Machine.execRdIe s
  | .wrIe wdata => Sys2Proof.Machine.execWrIe wdata s
  | .rdIp => Sys2Proof.Machine.execRdIp s
  | .wrIp wdata => Sys2Proof.Machine.execWrIp wdata s
  | .rdOor widx => Sys2Proof.Machine.execRdOor widx s
  | .wrOor widx wdata => Sys2Proof.Machine.execWrOor widx wdata s
  | .reset => Sys2Proof.Machine.execReset s

end Sys2Proof.Machine
end

