-- ==== Sys2Proof/WellFormed.lean ====
section
/-! DEFINITION. Which instruction terms are operations of the block: an out-of-range access has a word index of 30
or more (40_register_bank.md R130, R131; 20_memory.md R61). Every other term is well formed. -/

namespace Sys2Proof

/-- The word index lies past the last slot (R82 b). -/
def outOfRange (widx : WordIndex) : Bool := 30 ≤ widx.toNat

/-- An instruction term that stands for an operation of R83. -/
def Instr.wellFormed : Instr → Bool
  | .rdOor widx => outOfRange widx
  | .wrOor widx _ => outOfRange widx
  | .rdSckdiv => true
  | .wrSckdiv _ => true
  | .rdSckmode => true
  | .wrSckmode _ => true
  | .rdRsvd02 => true
  | .wrRsvd02 _ => true
  | .rdRsvd03 => true
  | .wrRsvd03 _ => true
  | .rdCsid => true
  | .wrCsid _ => true
  | .rdCsdef => true
  | .wrCsdef _ => true
  | .rdCsmode => true
  | .wrCsmode _ => true
  | .rdRsvd07 => true
  | .wrRsvd07 _ => true
  | .rdRsvd08 => true
  | .wrRsvd08 _ => true
  | .rdRsvd09 => true
  | .wrRsvd09 _ => true
  | .rdDelay0 => true
  | .wrDelay0 _ => true
  | .rdDelay1 => true
  | .wrDelay1 _ => true
  | .rdRsvd12 => true
  | .wrRsvd12 _ => true
  | .rdRsvd13 => true
  | .wrRsvd13 _ => true
  | .rdRsvd14 => true
  | .wrRsvd14 _ => true
  | .rdRsvd15 => true
  | .wrRsvd15 _ => true
  | .rdFmt => true
  | .wrFmt _ => true
  | .rdRsvd17 => true
  | .wrRsvd17 _ => true
  | .rdTxdata => true
  | .wrTxdata _ => true
  | .rdRxdata => true
  | .wrRxdata _ => true
  | .rdTxmark => true
  | .wrTxmark _ => true
  | .rdRxmark => true
  | .wrRxmark _ => true
  | .rdRsvd22 => true
  | .wrRsvd22 _ => true
  | .rdRsvd23 => true
  | .wrRsvd23 _ => true
  | .rdFctrl => true
  | .wrFctrl _ => true
  | .rdFfmt => true
  | .wrFfmt _ => true
  | .rdRsvd26 => true
  | .wrRsvd26 _ => true
  | .rdRsvd27 => true
  | .wrRsvd27 _ => true
  | .rdIe => true
  | .wrIe _ => true
  | .rdIp => true
  | .wrIp _ => true
  | .reset => true

end Sys2Proof
end

