-- ==== Sys2Proof/Decode.lean ====
section
/-! DEFINITION. The decoder (30_encoding.md R85), total on every transaction; the encoder; the access key and the
opcode table of R81 and R83 as mask and match rows; and the words of spec/opcode_table.json (log 8). -/

namespace Sys2Proof

/-- Why a transaction is no operation (R84 c). -/
inductive DecodeError where
  /-- The access is not 4 bytes wide (20_memory.md R63). -/
  | badSize
  /-- `offset[1:0]` is not 0 (20_memory.md R62). -/
  | misaligned
  deriving DecidableEq, Repr

/-- The read operation of word index `w` (R83). -/
def readOperation (w : WordIndex) : Instr :=
  match w.toNat with
  | 0 => .rdSckdiv
  | 1 => .rdSckmode
  | 2 => .rdRsvd02
  | 3 => .rdRsvd03
  | 4 => .rdCsid
  | 5 => .rdCsdef
  | 6 => .rdCsmode
  | 7 => .rdRsvd07
  | 8 => .rdRsvd08
  | 9 => .rdRsvd09
  | 10 => .rdDelay0
  | 11 => .rdDelay1
  | 12 => .rdRsvd12
  | 13 => .rdRsvd13
  | 14 => .rdRsvd14
  | 15 => .rdRsvd15
  | 16 => .rdFmt
  | 17 => .rdRsvd17
  | 18 => .rdTxdata
  | 19 => .rdRxdata
  | 20 => .rdTxmark
  | 21 => .rdRxmark
  | 22 => .rdRsvd22
  | 23 => .rdRsvd23
  | 24 => .rdFctrl
  | 25 => .rdFfmt
  | 26 => .rdRsvd26
  | 27 => .rdRsvd27
  | 28 => .rdIe
  | 29 => .rdIp
  | _ => .rdOor w

/-- The write operation of word index `w` (R83). -/
def writeOperation (w : WordIndex) (wdata : Word) : Instr :=
  match w.toNat with
  | 0 => .wrSckdiv wdata
  | 1 => .wrSckmode wdata
  | 2 => .wrRsvd02 wdata
  | 3 => .wrRsvd03 wdata
  | 4 => .wrCsid wdata
  | 5 => .wrCsdef wdata
  | 6 => .wrCsmode wdata
  | 7 => .wrRsvd07 wdata
  | 8 => .wrRsvd08 wdata
  | 9 => .wrRsvd09 wdata
  | 10 => .wrDelay0 wdata
  | 11 => .wrDelay1 wdata
  | 12 => .wrRsvd12 wdata
  | 13 => .wrRsvd13 wdata
  | 14 => .wrRsvd14 wdata
  | 15 => .wrRsvd15 wdata
  | 16 => .wrFmt wdata
  | 17 => .wrRsvd17 wdata
  | 18 => .wrTxdata wdata
  | 19 => .wrRxdata wdata
  | 20 => .wrTxmark wdata
  | 21 => .wrRxmark wdata
  | 22 => .wrRsvd22 wdata
  | 23 => .wrRsvd23 wdata
  | 24 => .wrFctrl wdata
  | 25 => .wrFfmt wdata
  | 26 => .wrRsvd26 wdata
  | 27 => .wrRsvd27 wdata
  | 28 => .wrIe wdata
  | 29 => .wrIp wdata
  | _ => .wrOor w wdata

/-- The conditions of the interface: width first, then alignment, before any range test (R85, T-IF6). -/
def accessCheck (offset : Word) (size : Nat) : Except DecodeError WordIndex :=
  if size ≠ 4 then .error .badSize
  else if aligned offset then .ok (wordIndex offset)
  else .error .misaligned

/-- R85: the operation a transaction selects, or why it is none. -/
def decode : Txn → Except DecodeError Instr
  | .rst => .ok .reset
  | .read offset size =>
    match accessCheck offset size with
    | .ok w => .ok (readOperation w)
    | .error e => .error e
  | .write offset size wdata =>
    match accessCheck offset size with
    | .ok w => .ok (writeOperation w wdata)
    | .error e => .error e

/-- The read transaction of word index `w`: offset `{w, 0b00}`, 4 bytes (R80, R82 a). -/
def readTxn (w : WordIndex) : Txn := .read (offsetOf w) 4

/-- The write transaction of word index `w` (R80, R82 a). -/
def writeTxn (w : WordIndex) (wdata : Word) : Txn := .write (offsetOf w) 4 wdata

/-- The transaction that applies an operation (R83). -/
def encode : Instr → Txn
  | .rdSckdiv => readTxn 0
  | .wrSckdiv wdata => writeTxn 0 wdata
  | .rdSckmode => readTxn 1
  | .wrSckmode wdata => writeTxn 1 wdata
  | .rdRsvd02 => readTxn 2
  | .wrRsvd02 wdata => writeTxn 2 wdata
  | .rdRsvd03 => readTxn 3
  | .wrRsvd03 wdata => writeTxn 3 wdata
  | .rdCsid => readTxn 4
  | .wrCsid wdata => writeTxn 4 wdata
  | .rdCsdef => readTxn 5
  | .wrCsdef wdata => writeTxn 5 wdata
  | .rdCsmode => readTxn 6
  | .wrCsmode wdata => writeTxn 6 wdata
  | .rdRsvd07 => readTxn 7
  | .wrRsvd07 wdata => writeTxn 7 wdata
  | .rdRsvd08 => readTxn 8
  | .wrRsvd08 wdata => writeTxn 8 wdata
  | .rdRsvd09 => readTxn 9
  | .wrRsvd09 wdata => writeTxn 9 wdata
  | .rdDelay0 => readTxn 10
  | .wrDelay0 wdata => writeTxn 10 wdata
  | .rdDelay1 => readTxn 11
  | .wrDelay1 wdata => writeTxn 11 wdata
  | .rdRsvd12 => readTxn 12
  | .wrRsvd12 wdata => writeTxn 12 wdata
  | .rdRsvd13 => readTxn 13
  | .wrRsvd13 wdata => writeTxn 13 wdata
  | .rdRsvd14 => readTxn 14
  | .wrRsvd14 wdata => writeTxn 14 wdata
  | .rdRsvd15 => readTxn 15
  | .wrRsvd15 wdata => writeTxn 15 wdata
  | .rdFmt => readTxn 16
  | .wrFmt wdata => writeTxn 16 wdata
  | .rdRsvd17 => readTxn 17
  | .wrRsvd17 wdata => writeTxn 17 wdata
  | .rdTxdata => readTxn 18
  | .wrTxdata wdata => writeTxn 18 wdata
  | .rdRxdata => readTxn 19
  | .wrRxdata wdata => writeTxn 19 wdata
  | .rdTxmark => readTxn 20
  | .wrTxmark wdata => writeTxn 20 wdata
  | .rdRxmark => readTxn 21
  | .wrRxmark wdata => writeTxn 21 wdata
  | .rdRsvd22 => readTxn 22
  | .wrRsvd22 wdata => writeTxn 22 wdata
  | .rdRsvd23 => readTxn 23
  | .wrRsvd23 wdata => writeTxn 23 wdata
  | .rdFctrl => readTxn 24
  | .wrFctrl wdata => writeTxn 24 wdata
  | .rdFfmt => readTxn 25
  | .wrFfmt wdata => writeTxn 25 wdata
  | .rdRsvd26 => readTxn 26
  | .wrRsvd26 wdata => writeTxn 26 wdata
  | .rdRsvd27 => readTxn 27
  | .wrRsvd27 wdata => writeTxn 27 wdata
  | .rdIe => readTxn 28
  | .wrIe wdata => writeTxn 28 wdata
  | .rdIp => readTxn 29
  | .wrIp wdata => writeTxn 29 wdata
  | .rdOor widx => readTxn widx
  | .wrOor widx wdata => writeTxn widx wdata
  | .reset => .rst

/-- R81: the access key `{we, offset[31:2]}` of a transaction; none where the transaction is not a well-formed ACC
transaction (R84 c, or the event `rst`). -/
def Txn.key : Txn → Option Key
  | .rst => none
  | .read offset size => if size = 4 ∧ aligned offset then some (accessKey 0#1 (wordIndex offset)) else none
  | .write offset size _ => if size = 4 ∧ aligned offset then some (accessKey 1#1 (wordIndex offset)) else none

/-- The write data of a transaction; 0 where it carries none (R80: present for writes only). -/
def Txn.wdata : Txn → Word
  | .write _ _ wdata => wdata
  | _ => 0

/-- One row of spec/opcode_table.json of format ACC: it matches a key when `(key & mask) == value`; `operation`
gives the operation from the key's word index and the write data. -/
structure TableRow where
  mask : Key
  value : Key
  operation : WordIndex → Word → Instr

/-- A row that matches one key exactly. -/
def exactRow (value : Key) (operation : Word → Instr) : TableRow :=
  { mask := 0x7FFFFFFF, value := value, operation := fun _ wdata => operation wdata }

/-- Rows 1 to 12 of the table (R83). -/
def tableRows1 : List TableRow := [
  exactRow 0x00000000 (fun _ => .rdSckdiv),
  exactRow 0x40000000 .wrSckdiv,
  exactRow 0x00000001 (fun _ => .rdSckmode),
  exactRow 0x40000001 .wrSckmode,
  exactRow 0x00000002 (fun _ => .rdRsvd02),
  exactRow 0x40000002 .wrRsvd02,
  exactRow 0x00000003 (fun _ => .rdRsvd03),
  exactRow 0x40000003 .wrRsvd03,
  exactRow 0x00000004 (fun _ => .rdCsid),
  exactRow 0x40000004 .wrCsid,
  exactRow 0x00000005 (fun _ => .rdCsdef),
  exactRow 0x40000005 .wrCsdef]

/-- Rows 13 to 24 of the table (R83). -/
def tableRows2 : List TableRow := [
  exactRow 0x00000006 (fun _ => .rdCsmode),
  exactRow 0x40000006 .wrCsmode,
  exactRow 0x00000007 (fun _ => .rdRsvd07),
  exactRow 0x40000007 .wrRsvd07,
  exactRow 0x00000008 (fun _ => .rdRsvd08),
  exactRow 0x40000008 .wrRsvd08,
  exactRow 0x00000009 (fun _ => .rdRsvd09),
  exactRow 0x40000009 .wrRsvd09,
  exactRow 0x0000000A (fun _ => .rdDelay0),
  exactRow 0x4000000A .wrDelay0,
  exactRow 0x0000000B (fun _ => .rdDelay1),
  exactRow 0x4000000B .wrDelay1]

/-- Rows 25 to 36 of the table (R83). -/
def tableRows3 : List TableRow := [
  exactRow 0x0000000C (fun _ => .rdRsvd12),
  exactRow 0x4000000C .wrRsvd12,
  exactRow 0x0000000D (fun _ => .rdRsvd13),
  exactRow 0x4000000D .wrRsvd13,
  exactRow 0x0000000E (fun _ => .rdRsvd14),
  exactRow 0x4000000E .wrRsvd14,
  exactRow 0x0000000F (fun _ => .rdRsvd15),
  exactRow 0x4000000F .wrRsvd15,
  exactRow 0x00000010 (fun _ => .rdFmt),
  exactRow 0x40000010 .wrFmt,
  exactRow 0x00000011 (fun _ => .rdRsvd17),
  exactRow 0x40000011 .wrRsvd17]

/-- Rows 37 to 48 of the table (R83). -/
def tableRows4 : List TableRow := [
  exactRow 0x00000012 (fun _ => .rdTxdata),
  exactRow 0x40000012 .wrTxdata,
  exactRow 0x00000013 (fun _ => .rdRxdata),
  exactRow 0x40000013 .wrRxdata,
  exactRow 0x00000014 (fun _ => .rdTxmark),
  exactRow 0x40000014 .wrTxmark,
  exactRow 0x00000015 (fun _ => .rdRxmark),
  exactRow 0x40000015 .wrRxmark,
  exactRow 0x00000016 (fun _ => .rdRsvd22),
  exactRow 0x40000016 .wrRsvd22,
  exactRow 0x00000017 (fun _ => .rdRsvd23),
  exactRow 0x40000017 .wrRsvd23]

/-- Rows 49 to 60 of the table (R83). -/
def tableRows5 : List TableRow := [
  exactRow 0x00000018 (fun _ => .rdFctrl),
  exactRow 0x40000018 .wrFctrl,
  exactRow 0x00000019 (fun _ => .rdFfmt),
  exactRow 0x40000019 .wrFfmt,
  exactRow 0x0000001A (fun _ => .rdRsvd26),
  exactRow 0x4000001A .wrRsvd26,
  exactRow 0x0000001B (fun _ => .rdRsvd27),
  exactRow 0x4000001B .wrRsvd27,
  exactRow 0x0000001C (fun _ => .rdIe),
  exactRow 0x4000001C .wrIe,
  exactRow 0x0000001D (fun _ => .rdIp),
  exactRow 0x4000001D .wrIp]

/-- The two catch-all rows for out-of-range offsets, tried last (R81). -/
def tableRowsOor : List TableRow := [
  { mask := 0x40000000, value := 0x00000000, operation := fun widx _ => .rdOor widx },
  { mask := 0x40000000, value := 0x40000000, operation := .wrOor }]

/-- The ACC rows of spec/opcode_table.json in file order (R81, R83). -/
def opcodeTable : List TableRow :=
  tableRows1 ++ tableRows2 ++ tableRows3 ++ tableRows4 ++ tableRows5 ++ tableRowsOor

/-- R81: the operation of the first row that matches the key. -/
def tableLookup (key : Key) (wdata : Word) : Option Instr :=
  (opcodeTable.find? fun row => key &&& row.mask == row.value).map
    fun row => row.operation (key.setWidth 30) wdata

/-- The transaction with table word `w` of `nbits` bits (log 8): the event `rst` has no bits (R80: format EVT has no
field), so a word of 0 bits is `rst`; otherwise bits 30..0 are the key `{we, widx}` of R81 and the next word,
bits 63..32, is `wdata`. Bit 31 belongs to no key: a word that sets it is no operation, and an access of size 0,
which the decoder refuses, stands for it. -/
def tableTxn (nbits w : Nat) : Txn :=
  if nbits = 0 then .rst
  else
    let bits := w % 2 ^ nbits
    let key : Key := BitVec.ofNat 31 bits
    if bits / 2 ^ 31 % 2 = 1 then .read 0 0
    else if key.getLsbD 30 then writeTxn (key.setWidth 30) (BitVec.ofNat 32 (bits / 2 ^ 32))
    else readTxn (key.setWidth 30)

/-- The instruction the decoder reads from a word of spec/opcode_table.json; none where it refuses. -/
def decodeTableWord (nbits w : Nat) : Option Instr :=
  match decode (tableTxn nbits w) with
  | .ok i => some i
  | .error _ => none

end Sys2Proof
end

