-- ==== Sys2Proof/Machine/Fetch.lean ====
section
/-! DEFINITION. How an operation reaches the block: the host applies transactions one at a time (00_scope.md R10, R11),
a transaction that is no operation is refused (30_encoding.md R85), and before the first RESET only RESET is accepted
(70_reset_and_hazards.md R222). -/

namespace Sys2Proof.Machine

/-- The next transaction the host applies, and the state with it taken from the queue. -/
def State.fetch (s : State) : Option (Txn × State) :=
  match s.pending with
  | [] => none
  | t :: rest => some (t, { s with pending := rest })

/-- The refusal of a transaction that is no operation (R84 c). -/
def refusalOf : DecodeError → Refusal
  | .badSize => .badSize
  | .misaligned => .misaligned

/-- R222: every operation after the first RESET, and RESET always. -/
def State.accepts (s : State) (i : Instr) : Bool := s.live || i == .reset

/-- The operation a transaction applies in state `s`, or why the model refuses it. -/
def State.operation (s : State) (t : Txn) : Except Refusal Instr :=
  match decode t with
  | .error e => .error (refusalOf e)
  | .ok i => if s.accepts i then .ok i else .error .beforeFirstReset

/-- The state with transaction `t` next in the queue. -/
def State.present (s : State) (t : Txn) : State := { s with pending := t :: s.pending }

end Sys2Proof.Machine
end

