-- ==== Sys2Proof/Machine/Step.lean ====
section
/-! DEFINITION. One step of the machine: the next operation of the host, whole (00_scope.md R11). -/

namespace Sys2Proof.Machine

/-- One step: take the next transaction and run its operation. With no transaction applied nothing happens (R10: no
background activity); the state stays as it is (log 7). -/
def step (s : State) : Host.Outcome State Fault Refusal :=
  match s.fetch with
  | none => .next s
  | some (t, s') =>
    match s'.operation t with
    | .ok i => exec i s'
    | .error r => .refused r

/-- `s` with the transaction of a table word presented next (log 3, log 8). -/
def State.withFetchWord (s : State) (nbits w : Nat) : State := s.present (tableTxn nbits w)

end Sys2Proof.Machine
end

