-- ==== Sys2Proof/Machine/Bus.lean ====
section
/-! DEFINITION. The software side of the block (20_memory.md R64, R71; 00_scope.md R8): with the block mapped at
`base` (the OPEN platform parameter BASE, which no rule of the block reads), which transaction an access makes, and
which byte of a register stands at which address. -/

namespace Sys2Proof.Machine

/-- The byte offset of a system address, where it is one of the block's: `addr = BASE + off` with a 32-bit `off` (R6,
R71). Other addresses do not reach the block (R67). -/
def busOffset (base addr : Nat) : Option Word :=
  if base ≤ addr ∧ addr - base < 2 ^ 32 then some (BitVec.ofNat 32 (addr - base)) else none

/-- `MemRead(addr, n)` (R71). -/
def memRead (base addr n : Nat) : Option Txn := (busOffset base addr).map fun off => .read off n

/-- `MemWrite(addr, n, v)` (R71). -/
def memWrite (base addr n : Nat) (v : Word) : Option Txn := (busOffset base addr).map fun off => .write off n v

/-- The byte of a register at address `BASE + off + k`: bits `8k+7` down to `8k`, little-endian (R64, D6). -/
def byteLane (v : Word) (k : Fin 4) : Byte := v.extractLsb' (8 * k.val) 8

/-- The register value whose bytes at rising addresses are `b0` to `b3` (R64, D6). -/
def ofByteLanes (b0 b1 b2 b3 : Byte) : Word := b3 ++ b2 ++ b1 ++ b0

end Sys2Proof.Machine
end

