-- ==== Sys2Proof/Machine/Pseudo.lean ====
section
/-! DEFINITION. The pseudo-operations of 30_encoding.md R87, each an abbreviation for a fixed sequence of operations. -/

namespace Sys2Proof.Machine

/-- The pseudo-operations (R87, D27; log 27). -/
inductive Pseudo where
  | xfer (b : Word)
  | select (k : Word)
  | deselect
  | irqEn (m : Word)
  | ipClr
  | pollIp
  deriving DecidableEq, Repr

/-- The expansion of a pseudo-operation (R87). -/
def expand : Pseudo → List Instr
  | .xfer b => [.wrTxdata b, .rdRxdata]
  | .select k => [.wrCsid k]
  | .deselect => [.wrCsid 0xFFFFFFFF]
  | .irqEn m => [.wrIe m]
  | .ipClr => [.wrIp 0]
  | .pollIp => [.rdIp]

/-- The transactions the host applies for a pseudo-operation. -/
def expandTxns (p : Pseudo) : List Txn := (expand p).map encode

end Sys2Proof.Machine
end

