-- ==== Sys2Proof/Safety.lean ====
section
/-! DEFINITION. What claims about the block are stated in: the invariants of 10_state.md R50, written out from the
rule and not through the operations that keep them; what a list of observed events says of the outputs
(00_scope.md R12); and what it means that nothing reads a slot (40_register_bank.md R100). -/

namespace Sys2Proof.Machine

/-- I-irq (R50): `irq_q == ((x[IP] & x[IE]) != 0)`. -/
abbrev State.IrqOk (s : State) : Prop := s.irq = decide (s.reg 29 &&& s.reg 28 ≠ 0)

/-- I-cs (R50): there are `NUM_CS` lines, and `cs_q[i] == x[CSDEF][i] ^ (x[CSID] == i)` on each. -/
abbrev State.CsOk (s : State) : Prop :=
  s.cs.length = s.numCs ∧
    ∀ i, i < s.numCs → s.cs[i]? = some ((s.reg 5).getLsbD i ^^ decide (s.reg 4 = BitVec.ofNat 32 i))

/-- I-tx (R50): `x[TXDATA][31:8] == 0`. -/
abbrev State.TxOk (s : State) : Prop := (s.reg 18).extractLsb' 8 24 = 0

/-- The invariants of R50 at a state after the first RESET. -/
abbrev State.Consistent (s : State) : Prop := s.IrqOk ∧ s.CsOk ∧ s.TxOk

/-- "Invariants that hold after every step from RESET onward" (R50): nothing is asked before the first RESET (R222). -/
abbrev State.Inv (s : State) : Prop := s.live = true → s.Consistent

/-- The exchanges among the events, in order (R12 b). -/
def exchangesOf (es : List Event) : List (Byte × Byte) :=
  es.filterMap fun
    | .exch tx rx => some (tx, rx)
    | _ => none

/-- The level of the `irq` output after the events, where it was `level` before; none where an `Irq` event records no
change of level (R12 c). -/
def replayIrq (level : Bool) : List Event → Option Bool
  | [] => some level
  | .irq l :: es => if l = level then none else replayIrq l es
  | .exch _ _ :: es => replayIrq level es
  | .cs _ _ :: es => replayIrq level es

/-- The levels of the chip-select outputs after the events, where they were `levels` before; none where a `Cs` event
records no change of level, or names no line (R12 d). -/
def replayCs (levels : List Bool) : List Event → Option (List Bool)
  | [] => some levels
  | .cs i l :: es => if levels[i]? = some (!l) then replayCs (levels.set i l) es else none
  | .exch _ _ :: es => replayCs levels es
  | .irq _ :: es => replayCs levels es

/-- The outputs are what the observed events, replayed from all outputs low (R48), say they are (R12). -/
abbrev State.Observed (s : State) : Prop :=
  replayIrq false s.trace = some s.irq ∧ replayCs (List.replicate s.numCs false) s.trace = some s.cs

/-- Line `i` is selected: its level is not its idle level (43_chip_select.md R180, R187). -/
abbrev State.selected (s : State) (i : Nat) : Prop :=
  s.cs[i]? = some (!((s.reg 5).getLsbD i))

/-- Operation `i` makes the source of pending bit `n` pending in state `s`: the table of 60_exceptions.md R201, for its
two sources, TXWM (bit 0) and RXWM (bit 1). -/
abbrev State.makesPending (s : State) (i : Instr) (n : Nat) : Prop :=
  ((∃ v, i = .wrTxdata v) ∧ n = 0) ∨ (i = .rdIp ∧ n = 1) ∨
    (i = .rdRxdata ∧ s.params.rxdataRdSetsRxwm = true ∧ n = 1) ∨
    ((∃ v : Word, i = .wrIp v ∧ v.getLsbD n = true) ∧ n < 2) ∨ (i = .reset ∧ n < 2)

/-- The two states differ at most in slot `w` and in the value last returned. -/
abbrev SameButSlot (w : Slot) (s t : State) : Prop :=
  (∀ w', w' ≠ w → t.reg w' = s.reg w') ∧ t.irq = s.irq ∧ t.cs = s.cs ∧ t.params = s.params ∧ t.live = s.live ∧
    t.trace = s.trace ∧ t.answers = s.answers ∧ t.pending = s.pending

/-- "no rule reads it" (10_state.md section 2): every operation does the same whatever slot `w` holds, except that a
read of `w` itself returns it. -/
def NeverRead (w : Slot) : Prop :=
  ∀ (i : Instr) (s : State) (v : Word), ∃ t t', exec i s = .next t ∧ exec i (s.setReg w v) = .next t' ∧
    SameButSlot w t t' ∧ (i ≠ readOperation (BitVec.ofNat 30 w.val) → t'.rdata = t.rdata)

/-- A read with no side effect: it returns the slot whole and changes nothing (R100). -/
def PlainRead (i : Instr) (w : Slot) : Prop :=
  ∀ s : State, exec i s = .next { s with rdata := some (s.reg w) }

/-- A write that stores all 32 bits and changes nothing else (R100). -/
def PlainWrite (i : Word → Instr) (w : Slot) : Prop :=
  ∀ (v : Word) (s : State), exec (i v) s = .next { s with bank := s.bank.set w v, rdata := none }

/-- A read after a write returns the value written, unchanged (R100). -/
def ReadsBack (rd : Instr) (wr : Word → Instr) : Prop :=
  ∀ (v : Word) (s : State), ∃ t, exec (wr v) s = .next t ∧ exec rd t = .next { t with rdata := some v }

/-- `rd` is selected by a 4-byte read at `offset`, with access key `key` (30_encoding.md R81, R83). -/
abbrev ReadEncoded (rd : Instr) (offset : Word) (key : Key) : Prop :=
  decode (.read offset 4) = .ok rd ∧ (Txn.read offset 4).key = some key

/-- `wr` is selected by a 4-byte write at `offset`, with access key `key` (30_encoding.md R81, R83). -/
abbrev WriteEncoded (wr : Word → Instr) (offset : Word) (key : Key) : Prop :=
  ∀ v, decode (.write offset 4 v) = .ok (wr v) ∧ (Txn.write offset 4 v).key = some key

/-- What 40_register_bank.md says of the read of a stored-only register: its encoding, its value after RESET, that it
returns the slot with no side effect, and that it returns what was last written. -/
def StoredRead (rd : Instr) (wr : Word → Instr) (w : Slot) (offset : Word) (key : Key) (resetValue : Word) : Prop :=
  ReadEncoded rd offset key ∧ PlainRead rd w ∧ ReadsBack rd wr ∧ ∀ p, (State.resetWith p).reg w = resetValue

/-- What 40_register_bank.md says of the write of a stored-only register: its encoding, that it stores all 32 bits and
changes nothing else, and that no operation reads what it stored. -/
def StoredWrite (wr : Word → Instr) (w : Slot) (offset : Word) (key : Key) : Prop :=
  WriteEncoded wr offset key ∧ PlainWrite wr w ∧ NeverRead w

/-- The byte a transaction transmits: the low byte of a write of TXDATA (41_transfer_engine.md R151). -/
def txnTransmits : Txn → Option Byte
  | .write offset _ wdata => if offset = 0x48 then some (wdata.extractLsb' 0 8) else none
  | _ => none

end Sys2Proof.Machine
end

