-- ==== Sys2Proof/Certificates/Slice0/Obligations.lean ====
section
/-! DEFINITION. The statements about the block, each from the rule of spec/ its docstring names. -/

open Sys2Proof Sys2Proof.Machine

/-- For every well-formed operation i (every one of the 63, every wdata, every out-of-range word index), decode
(encode i) = i. No bit of an operand is dropped. Rules R80, R82, R83 and R85; that 0x78 is out of range and that no
address bit is ignored are the spec's decisions D3 and D4 (log 10). -/
def Obligations.DecodeInvertsEncode : Prop :=
  ∀ i : Instr, i.wellFormed = true → decode (encode i) = .ok i

/-- For every transaction t and operation i: if decode t = i then encode i = t and i is well formed. So decoding
selects exactly one operation, and two transactions never select one operation (R85: the decode selects exactly one
operation). Which word indices are out of range, that none aliases a slot, and that no other access decodes are the
spec's decisions D3, D4 (log 10) and D5 (log 11). -/
def Obligations.EncodeInvertsDecode : Prop :=
  ∀ (t : Txn) (i : Instr), decode t = .ok i → encode i = t ∧ i.wellFormed = true

/-- For every offset, size and wdata, read and write alike: size not 4 is refused as badSize; size 4 with an offset
that is no multiple of 4 is refused as misaligned, in range or not; size 4 and aligned decodes to an operation.
The event rst always decodes to RESET. The refusal is the spec's decision D5 (log 11); the order of the two
tests shows only in the refusal's name. -/
def Obligations.DecodeRefusesExactlyIllFormed : Prop :=
  decode .rst = .ok .reset ∧
  ∀ (offset : Word) (size : Nat) (wdata : Word),
    (size ≠ 4 → decode (.read offset size) = .error .badSize ∧ decode (.write offset size wdata) = .error .badSize) ∧
    (size = 4 → offset.toNat % 4 ≠ 0 →
      decode (.read offset size) = .error .misaligned ∧ decode (.write offset size wdata) = .error .misaligned) ∧
    (size = 4 → offset.toNat % 4 = 0 →
      ∃ r w, decode (.read offset size) = .ok r ∧ decode (.write offset size wdata) = .ok w)

/-- For every offset that is a multiple of 4: at 0x78 or above, a read decodes to RD.OOR and a write to WR.OOR of the
word index offset/4 (so no high offset aliases a slot); below 0x78, a read and a write decode to the read and the
write operation of slot offset/4, with wdata whole, and neither is RD.OOR or WR.OOR. Rules R61, R85, R130, R131; that
0x78 is out of range and that no address bit is ignored are the spec's decisions D3 and D4 (log 10). -/
def Obligations.OutOfRangeFromOffset78 : Prop :=
  ∀ (offset wdata : Word), offset.toNat % 4 = 0 →
    (120 ≤ offset.toNat → ∃ widx : WordIndex, widx.toNat = offset.toNat / 4 ∧
      decode (.read offset 4) = .ok (.rdOor widx) ∧ decode (.write offset 4 wdata) = .ok (.wrOor widx wdata)) ∧
    (offset.toNat < 120 → (∃ w : Slot, w.val = offset.toNat / 4 ∧
        decode (.read offset 4) = .ok (readOperation (BitVec.ofNat 30 w.val)) ∧
        decode (.write offset 4 wdata) = .ok (writeOperation (BitVec.ofNat 30 w.val) wdata)) ∧
      ∀ (widx : WordIndex) (v : Word),
        decode (.read offset 4) ≠ .ok (.rdOor widx) ∧ decode (.write offset 4 wdata) ≠ .ok (.wrOor widx v))

/-- For every transaction t with an access key k (a 4-byte aligned access): the operation of the first row of
opcode_table.json that matches k is the operation decode gives for t. Rules R81, R83 and R85; the key is the spec's
decision D28 (log 8). That only a 4-byte aligned access has a key is decision D5 (log 11); that the last two rows
begin at 0x78 and that no address bit is ignored are decisions D3 and D4 (log 10). -/
def Obligations.TableFirstMatchIsDecode : Prop :=
  ∀ (t : Txn) (k : Key), t.key = some k → ∃ i, decode t = .ok i ∧ tableLookup k t.wdata = some i

/-- One read and one write of each family at the offsets of R83, the first out-of-range offset 0x78, the last offset
0xFFFFFFFC, the high offset 0x80000048 (T-RB16), and rst decode as R83 and R85 say. That 0x78 and 0x80000048 are out
of range are the spec's decisions D3 and D4 (log 10); that the unnamed slots have operations of their own is D7 (log
12). -/
def Obligations.SampleTransactionsDecode : Prop :=
  decode (.read 0x00 4) = .ok .rdSckdiv ∧ decode (.write 0x64 4 0xDEADBEEF) = .ok (.wrFfmt 0xDEADBEEF) ∧
  decode (.read 0x08 4) = .ok .rdRsvd02 ∧ decode (.write 0x6C 4 0xCAFEF00D) = .ok (.wrRsvd27 0xCAFEF00D) ∧
  decode (.write 0x48 4 0x9F) = .ok (.wrTxdata 0x9F) ∧ decode (.read 0x4C 4) = .ok .rdRxdata ∧
  decode (.write 0x70 4 1) = .ok (.wrIe 1) ∧ decode (.read 0x74 4) = .ok .rdIp ∧
  decode (.write 0x10 4 2) = .ok (.wrCsid 2) ∧ decode (.read 0x14 4) = .ok .rdCsdef ∧
  decode (.read 0x78 4) = .ok (.rdOor 30) ∧ decode (.read 0xFFFFFFFC 4) = .ok (.rdOor 0x3FFFFFFF) ∧
  decode (.write 0x80000048 4 0x5A) = .ok (.wrOor 0x20000012 0x5A) ∧ decode .rst = .ok .reset

/-- If the next pending transaction decodes to i, and a RESET has been applied or i is RESET, then step is exec i on
the state with that transaction taken from the queue. Rules R11 and R85; the queue of transactions is the model's own
field (log 3), the live bit models R222 (decision D20, log 6), and that one operation is one whole step is decision D2
(log 26). -/
def Obligations.StepRunsDecodedOperation : Prop :=
  ∀ (s : State) (t : Txn) (rest : List Txn) (i : Instr), s.pending = t :: rest → decode t = .ok i →
    (s.live = true ∨ i = .reset) → step s = exec i { s with pending := rest }

/-- If the next pending transaction has a size other than 4, step is refused as badSize; if its size is 4 and its
offset is no multiple of 4, step is refused as misaligned, whatever the state. Rules R62, R63, R84 c, decision D5 (log
11); the queue is the model's own field (log 3). -/
def Obligations.StepRefusesIllFormedTransaction : Prop :=
  ∀ (s : State) (rest : List Txn) (offset wdata : Word) (size : Nat),
    (s.pending = .read offset size :: rest ∨ s.pending = .write offset size wdata :: rest) →
    (size ≠ 4 → step s = .refused .badSize) ∧
    (size = 4 → offset.toNat % 4 ≠ 0 → step s = .refused .misaligned)

/-- Where no RESET has been applied and the next transaction decodes to an operation other than RESET, step is refused
as beforeFirstReset (R222, U3, T-RS4; decision D20, log 6); the queue is the model's own field (log 3). -/
def Obligations.OnlyResetBeforeFirstReset : Prop :=
  ∀ (s : State) (t : Txn) (rest : List Txn) (i : Instr), s.live = false → s.pending = t :: rest →
    decode t = .ok i → i ≠ .reset → step s = .refused .beforeFirstReset

/-- The block has no background activity (R10, R211): where the host applies no transaction, step answers the same
state. That such a step exists at all is the model's choice (log 7), as is the queue (log 3). -/
def Obligations.StepIdlesWithoutTransaction : Prop :=
  ∀ s : State, s.pending = [] → step s = .next s

/-- For every operation i and state s, exec i s answers a next state; step never answers a fault. Rule R200: the block
raises no exception, bus error or fault. That WR.TXDATA completes rests on the source's assumption that an exchange
always does (R141, U15; log 26). -/
def Obligations.EveryOperationCompletes : Prop :=
  (∀ (i : Instr) (s : State), ∃ t, exec i s = .next t) ∧ ∀ (s : State) (f : Fault), step s ≠ .fault f

/-- For SCKDIV, SCKMODE, DELAY0, DELAY1, FMT, FCTRL, FFMT: the read at the register's offset and key is RD.<reg>; it
completes, returns x[w] and changes nothing else (no slot, output, flag, event or exchange); it returns what the
last WR.<reg> wrote; the slot is 0 after RESET; and no operation but that read depends on the slot. -/
def Obligations.NamedStoredOnlyReads : Prop :=
  StoredRead .rdSckdiv .wrSckdiv 0 0x00 0x00000000 0 ∧
  StoredRead .rdSckmode .wrSckmode 1 0x04 0x00000001 0 ∧
  StoredRead .rdDelay0 .wrDelay0 10 0x28 0x0000000A 0 ∧
  StoredRead .rdDelay1 .wrDelay1 11 0x2C 0x0000000B 0 ∧
  StoredRead .rdFmt .wrFmt 16 0x40 0x00000010 0 ∧
  StoredRead .rdFctrl .wrFctrl 24 0x60 0x00000018 0 ∧
  StoredRead .rdFfmt .wrFfmt 25 0x64 0x00000019 0 ∧
  ∀ w ∈ ([0, 1, 10, 11, 16, 24, 25] : List Slot), NeverRead w

/-- For SCKDIV, SCKMODE, DELAY0, DELAY1, FMT, FCTRL, FFMT: the write at the register's offset and key is WR.<reg>;
it completes, stores wdata whole in its slot and changes nothing else (no other slot, output, flag, event or
exchange), and no operation but the read of the register depends on what was stored. -/
def Obligations.NamedStoredOnlyWrites : Prop :=
  StoredWrite .wrSckdiv 0 0x00 0x40000000 ∧
  StoredWrite .wrSckmode 1 0x04 0x40000001 ∧
  StoredWrite .wrDelay0 10 0x28 0x4000000A ∧
  StoredWrite .wrDelay1 11 0x2C 0x4000000B ∧
  StoredWrite .wrFmt 16 0x40 0x40000010 ∧
  StoredWrite .wrFctrl 24 0x60 0x40000018 ∧
  StoredWrite .wrFfmt 25 0x64 0x40000019

/-- For RSVD02, 03, 07, 08, 09, 12, 13, 14, 15, 17, 22, 23, 26, 27: the read at offset 4*nn with key nn is
RD.RSVDnn; it completes, returns x[nn], changes nothing else, returns what the last write stored, and 0 after
RESET. Rule R120; that the slots are storage is the spec's decision D7 (log 12). -/
def Obligations.UnnamedSlotReads : Prop :=
  StoredRead .rdRsvd02 .wrRsvd02 2 0x08 0x00000002 0 ∧
  StoredRead .rdRsvd03 .wrRsvd03 3 0x0C 0x00000003 0 ∧
  StoredRead .rdRsvd07 .wrRsvd07 7 0x1C 0x00000007 0 ∧
  StoredRead .rdRsvd08 .wrRsvd08 8 0x20 0x00000008 0 ∧
  StoredRead .rdRsvd09 .wrRsvd09 9 0x24 0x00000009 0 ∧
  StoredRead .rdRsvd12 .wrRsvd12 12 0x30 0x0000000C 0 ∧
  StoredRead .rdRsvd13 .wrRsvd13 13 0x34 0x0000000D 0 ∧
  StoredRead .rdRsvd14 .wrRsvd14 14 0x38 0x0000000E 0 ∧
  StoredRead .rdRsvd15 .wrRsvd15 15 0x3C 0x0000000F 0 ∧
  StoredRead .rdRsvd17 .wrRsvd17 17 0x44 0x00000011 0 ∧
  StoredRead .rdRsvd22 .wrRsvd22 22 0x58 0x00000016 0 ∧
  StoredRead .rdRsvd23 .wrRsvd23 23 0x5C 0x00000017 0 ∧
  StoredRead .rdRsvd26 .wrRsvd26 26 0x68 0x0000001A 0 ∧
  StoredRead .rdRsvd27 .wrRsvd27 27 0x6C 0x0000001B 0

/-- For the same 14 slots: the write at offset 4*nn with key 0x40000000 + nn is WR.RSVDnn; it completes, stores
wdata whole, changes nothing else, and no operation but the read of the slot depends on it. Rule R121; decision
D7 (log 12). -/
def Obligations.UnnamedSlotWrites : Prop :=
  StoredWrite .wrRsvd02 2 0x08 0x40000002 ∧
  StoredWrite .wrRsvd03 3 0x0C 0x40000003 ∧
  StoredWrite .wrRsvd07 7 0x1C 0x40000007 ∧
  StoredWrite .wrRsvd08 8 0x20 0x40000008 ∧
  StoredWrite .wrRsvd09 9 0x24 0x40000009 ∧
  StoredWrite .wrRsvd12 12 0x30 0x4000000C ∧
  StoredWrite .wrRsvd13 13 0x34 0x4000000D ∧
  StoredWrite .wrRsvd14 14 0x38 0x4000000E ∧
  StoredWrite .wrRsvd15 15 0x3C 0x4000000F ∧
  StoredWrite .wrRsvd17 17 0x44 0x40000011 ∧
  StoredWrite .wrRsvd22 22 0x58 0x40000016 ∧
  StoredWrite .wrRsvd23 23 0x5C 0x40000017 ∧
  StoredWrite .wrRsvd26 26 0x68 0x4000001A ∧
  StoredWrite .wrRsvd27 27 0x6C 0x4000001B

/-- Reads and writes of TXMARK (1 after RESET) and RXMARK (0 after RESET), at their offsets and keys, complete, return
or store the slot whole and change nothing else: no pending bit, no irq; no operation but the register's own read
depends on the value. Rules R145 to R148, R150, R33, R34; that nothing consults the marks is the spec's decision D22
(log 20). -/
def Obligations.WatermarkRegistersAreStorage : Prop :=
  StoredRead .rdTxmark .wrTxmark 20 0x50 0x00000014 1 ∧
  StoredWrite .wrTxmark 20 0x50 0x40000014 ∧
  StoredRead .rdRxmark .wrRxmark 21 0x54 0x00000015 0 ∧
  StoredWrite .wrRxmark 21 0x54 0x40000015

/-- RD.OOR, at every word index, completes, returns 0 and changes nothing else. Rule R130 (where the range ends is
decision D3, log 10). -/
def Obligations.OutOfRangeReadsReturnZero : Prop :=
  ∀ (widx : WordIndex) (s : State), exec (.rdOor widx) s = .next { s with rdata := some 0 }

/-- WR.OOR, at every word index and wdata, completes and changes no slot, output, flag, event or exchange, and
returns no value. Rule R131 (where the range ends is decision D3, log 10; rdata is the model's port, log 4). -/
def Obligations.OutOfRangeWritesAreDropped : Prop :=
  ∀ (widx : WordIndex) (wdata : Word) (s : State), exec (.wrOor widx wdata) s = .next { s with rdata := none }

/-- For every slot w other than CSID, CSDEF, IE and IP, every value v and every run of k steps that completes: the run
from the state with v in slot w completes too, and the two end states agree on every other slot, irq, cs, the events,
the exchanges and the queue. So SCKDIV, SCKMODE, CSMODE, DELAY0, DELAY1, FMT, TXMARK, RXMARK, FCTRL, FFMT, the unnamed
slots and the stored TXDATA and RXDATA alter no transfer, interrupt or select line. Rules R100, R150, R5 (TXMARK,
RXMARK: decision D22, log 20; unnamed slots: D7, log 12; RXDATA: D10, D29, log 16, 22; CSMODE: D15, log 18). Both runs
have one environment: equal answers set, and free answers that depend on the same events (log 2). -/
def Obligations.UnreadSlotsNeverReachAnOutput : Prop :=
  ∀ (w : Slot), w ∉ ([4, 5, 28, 29] : List Slot) → ∀ (k : Nat) (s t : State) (v : Word),
    Sys2Proof.core.run k s = .next t →
    ∃ t' : State, Sys2Proof.core.run k (s.setReg w v) = .next t' ∧ SameButSlot w t t'

/-- For every state s and wdata, with tx = wdata[7:0] and rx the collaborator's answer: WR.TXDATA completes with
x[TXDATA] = zext(tx), x[RXDATA] = zext(rx), x[IP] = old | 1, every other slot unchanged, irq = ((old IP | 1) & IE !=
0), and the events Exch(tx, rx) and then Irq where the level changed; the select lines, parameters and queue are
unchanged. The answer is the next byte the collaborator is set to give, else a free value. Rules R140, R141, R160;
decisions D8 (low byte stored), D9, D13 (log 13, 14, 15). The answer is any byte (decision D23); the field of answers
set, and the free value with the events, the levels and the byte sent as its arguments, are the model's own (DESIGN
CHOICE, log 2), as are the recorded events and the read-data port (log 4, 5). -/
def Obligations.WriteTxdataTransfers : Prop :=
  ∀ (wdata : Word) (s : State), ∃ (rx : Byte) (t : State), exec (.wrTxdata wdata) s = .next t ∧
    (∀ r rest, s.answers = r :: rest → rx = r ∧ t.answers = rest) ∧
    (s.answers = [] → rx = Config.serialAnswer s.trace s.cs (wdata.extractLsb' 0 8) ∧ t.answers = []) ∧
    t.reg 18 = (wdata.extractLsb' 0 8).setWidth 32 ∧ t.reg 19 = rx.setWidth 32 ∧ t.reg 29 = s.reg 29 ||| 1 ∧
    (∀ w : Slot, w ≠ 18 → w ≠ 19 → w ≠ 29 → t.reg w = s.reg w) ∧
    t.irq = decide ((s.reg 29 ||| 1) &&& s.reg 28 ≠ 0) ∧
    t.trace = s.trace ++ .exch (wdata.extractLsb' 0 8) rx :: (if t.irq = s.irq then [] else [.irq t.irq]) ∧
    t.cs = s.cs ∧ t.params = s.params ∧ t.live = s.live ∧ t.pending = s.pending ∧ t.rdata = none

/-- For every state and wdata with low byte B: WR.TXDATA completes with exactly one new exchange, (B, r); RXDATA is r
zero-extended and IP bit 0 is 1. Every byte r is the answer in some state: where the collaborator is set to answer r,
r is answered. Rule R153, which the spec derives from R140; the zero extension is the spec's decision D9 (log 14), and
the field of answers set is the model's own (log 2). -/
def Obligations.ReceivedByteIsTheAnswer : Prop :=
  ∀ (wdata : Word) (s : State), ∃ (r : Byte) (t : State), exec (.wrTxdata wdata) s = .next t ∧
    exchangesOf t.trace = exchangesOf s.trace ++ [(wdata.extractLsb' 0 8, r)] ∧
    t.reg 19 = r.setWidth 32 ∧ (t.reg 29).getLsbD 0 = true ∧
    (∀ r' rest, s.answers = r' :: rest → r = r')

/-- RD.TXDATA at offset 0x48 completes, returns x[TXDATA] and changes nothing else; after WR.TXDATA it returns
wdata[7:0] zero-extended; in every state that meets the invariants its bits 31 to 8 are 0; the slot is 0 after
RESET. Rule R142; decision D8 (log 13). -/
def Obligations.ReadTxdataReturnsByteWritten : Prop :=
  ReadEncoded .rdTxdata 0x48 0x00000012 ∧ PlainRead .rdTxdata 18 ∧
  (∀ (wdata : Word) (s : State), ∃ t, exec (.wrTxdata wdata) s = .next t ∧
    exec .rdTxdata t = .next { t with rdata := some ((wdata.extractLsb' 0 8).setWidth 32) }) ∧
  (∀ s : State, s.live = true → s.Inv → ∃ b : Byte,
    exec .rdTxdata s = .next { s with rdata := some (b.setWidth 32) }) ∧
  ∀ p, (State.resetWith p).reg 18 = 0

/-- RD.RXDATA at offset 0x4C completes and returns x[RXDATA]. With RXDATA_RD_SETS_RXWM false it changes nothing else.
With it true, IP becomes old | 2, irq becomes ((old IP | 2) & IE != 0) with an Irq event where it changed, and
everything else is unchanged. In both cases there is no exchange, and a second read returns the same value. Rules R143
and R160; decisions D10 (no exchange, log 16), D11 (the parameter, log 1) and D13 (the AND over all 32 bits, log 15).
-/
def Obligations.ReadRxdataReturnsByteReceived : Prop :=
  ReadEncoded .rdRxdata 0x4C 0x00000013 ∧ ∀ s : State, ∃ t, exec .rdRxdata s = .next t ∧
    t.rdata = some (s.reg 19) ∧ exchangesOf t.trace = exchangesOf s.trace ∧ t.reg 19 = s.reg 19 ∧
    (s.params.rxdataRdSetsRxwm = false → t = { s with rdata := some (s.reg 19) }) ∧
    (s.params.rxdataRdSetsRxwm = true → t = { s with
      bank := s.bank.set 29 (s.reg 29 ||| 2)
      irq := decide ((s.reg 29 ||| 2) &&& s.reg 28 ≠ 0)
      trace := s.trace ++ (if decide ((s.reg 29 ||| 2) &&& s.reg 28 ≠ 0) = s.irq then []
        else [.irq (decide ((s.reg 29 ||| 2) &&& s.reg 28 ≠ 0))])
      rdata := some (s.reg 19) })

/-- WR.RXDATA at offset 0x4C completes, stores wdata whole in slot 19 and changes nothing else: no exchange, no
pending bit. The next RD.RXDATA returns it. Rule R144, decision D29 (log 22). -/
def Obligations.WriteRxdataStores : Prop :=
  WriteEncoded .wrRxdata 0x4C 0x40000013 ∧ PlainWrite .wrRxdata 19 ∧
  ∀ (v : Word) (s : State), ∃ t u, exec (.wrRxdata v) s = .next t ∧ exec .rdRxdata t = .next u ∧ u.rdata = some v

/-- For every state and every run of k steps that completes: the bytes sent during the run are the low bytes of the
TXDATA writes among the first k pending transactions, in order, one each, and those k transactions have left the
queue. RESET, reads and every other write exchange nothing. Rule R151 (decision D10, log 16); that only offset 0x48
reaches TXDATA is decision D4 (log 10), and the queue and the recorded events are the model's own fields (log 3, 5).
-/
def Obligations.OneExchangePerTxdataWrite : Prop :=
  ∀ (k : Nat) (s t : State), Sys2Proof.core.run k s = .next t →
    (exchangesOf t.trace).map Prod.fst =
      (exchangesOf s.trace).map Prod.fst ++ (s.pending.take k).filterMap txnTransmits ∧
    t.pending = s.pending.drop k

/-- In every state that meets the invariants after a RESET: after WR.TXDATA, irq is the old irq or IE bit 0; after
RD.IP, the old irq or IE bit 1; after RD.RXDATA, the old irq or (RXDATA_RD_SETS_RXWM and IE bit 1). Rules R140 (d),
R163 (b, c), R143 (d); it rests on the whole-register AND of R160, decision D13 (log 15), and on the OPEN parameter of
decision D11 (log 1). -/
def Obligations.TransfersAndPollsOnlyRaiseIrq : Prop :=
  ∀ s : State, s.live = true → s.Inv →
    (∀ wdata, ∃ t, exec (.wrTxdata wdata) s = .next t ∧ t.irq = (s.irq || (s.reg 28).getLsbD 0)) ∧
    (∃ t, exec .rdIp s = .next t ∧ t.irq = (s.irq || (s.reg 28).getLsbD 1)) ∧
    (∃ t, exec .rdRxdata s = .next t ∧
      t.irq = (s.irq || (s.params.rxdataRdSetsRxwm && (s.reg 28).getLsbD 1)))

/-- RD.IE, RD.CSID, RD.CSDEF and RD.CSMODE, each at its offset and key, complete, return the slot whole and change
nothing else; after a write of the register they return all 32 bits written; after RESET they return 0, 0, 1 and 0 for
every NUM_CS. Rules R161, R181, R183, R185; that IE keeps its undefined bits 31 to 2 is the spec's decision D13 (log
15). -/
def Obligations.ControlRegisterReads : Prop :=
  ReadEncoded .rdIe 0x70 0x0000001C ∧ PlainRead .rdIe 28 ∧
  ReadsBack .rdIe .wrIe ∧ (∀ p, (State.resetWith p).reg 28 = 0) ∧
  ReadEncoded .rdCsid 0x10 0x00000004 ∧ PlainRead .rdCsid 4 ∧
  ReadsBack .rdCsid .wrCsid ∧ (∀ p, (State.resetWith p).reg 4 = 0) ∧
  ReadEncoded .rdCsdef 0x14 0x00000005 ∧ PlainRead .rdCsdef 5 ∧
  ReadsBack .rdCsdef .wrCsdef ∧ (∀ p, (State.resetWith p).reg 5 = 1) ∧
  ReadEncoded .rdCsmode 0x18 0x00000006 ∧ PlainRead .rdCsmode 6 ∧
  ReadsBack .rdCsmode .wrCsmode ∧ (∀ p, (State.resetWith p).reg 6 = 0)

/-- WR.IE at offset 0x70 completes with x[IE] = wdata, irq = ((x[IP] & wdata) != 0), one Irq event exactly where the
level changed, and everything else unchanged. Rule R162; decision D13 (all 32 bits, log 15). -/
def Obligations.WriteIeReevaluatesIrq : Prop :=
  WriteEncoded .wrIe 0x70 0x4000001C ∧ ∀ (v : Word) (s : State), exec (.wrIe v) s = .next { s with
    bank := s.bank.set 28 v
    irq := decide (s.reg 29 &&& v ≠ 0)
    trace := s.trace ++ (if decide (s.reg 29 &&& v ≠ 0) = s.irq then [] else [.irq (decide (s.reg 29 &&& v ≠ 0))])
    rdata := none }

/-- WR.IP at offset 0x74 completes with x[IP] = wdata (no write-one-to-clear, no masking), irq = ((wdata & x[IE]) !=
0), one Irq event exactly where the level changed, and everything else unchanged. Rule R164; decisions D14 (re-
evaluation) and D13 (log 15, 17). -/
def Obligations.WriteIpReplacesPendingBits : Prop :=
  WriteEncoded .wrIp 0x74 0x4000001D ∧ ∀ (v : Word) (s : State), exec (.wrIp v) s = .next { s with
    bank := s.bank.set 29 v
    irq := decide (v &&& s.reg 28 ≠ 0)
    trace := s.trace ++ (if decide (v &&& s.reg 28 ≠ 0) = s.irq then [] else [.irq (decide (v &&& s.reg 28 ≠ 0))])
    rdata := none }

/-- RD.IP at offset 0x74 completes with x[IP] = old | 2, irq = ((old | 2) & IE != 0), one Irq event exactly where
the level changed, and everything else unchanged; it returns old | 2 where IP_RD_RETURNS_UPDATED is true and old
where it is false. Rule R163; decisions D12 (the parameter, log 1) and D13 (log 15). -/
def Obligations.ReadIpSetsRxwm : Prop :=
  ReadEncoded .rdIp 0x74 0x0000001D ∧ ∀ s : State, exec .rdIp s = .next { s with
    bank := s.bank.set 29 (s.reg 29 ||| 2)
    irq := decide ((s.reg 29 ||| 2) &&& s.reg 28 ≠ 0)
    trace := s.trace ++ (if decide ((s.reg 29 ||| 2) &&& s.reg 28 ≠ 0) = s.irq then []
      else [.irq (decide ((s.reg 29 ||| 2) &&& s.reg 28 ≠ 0))])
    rdata := some (if s.params.ipRdReturnsUpdated = true then s.reg 29 ||| 2 else s.reg 29) }

/-- After RD.IP, a second RD.IP changes no slot, output or event, and returns IP with bit 1 set under both settings of
IP_RD_RETURNS_UPDATED. Rules R66, R163 (d); the parameter is OPEN, decision D12 (log 1). -/
def Obligations.ReadIpTwiceIsReadIpOnce : Prop :=
  ∀ s : State, ∃ t, exec .rdIp s = .next t ∧ ∃ v : Word, exec .rdIp t = .next { t with rdata := some v } ∧
    v = s.reg 29 ||| 2 ∧ v.getLsbD 1 = true

/-- For every operation i that takes s to t and every bit n of IP that is 1 in s and 0 in t: i is a WR.IP whose
wdata has bit n 0, or i is RESET and n is 2 or more; and RESET leaves exactly bits 1 and 0 set. -/
def Obligations.PendingBitsAreSticky : Prop :=
  (∀ (i : Instr) (s t : State) (n : Nat), exec i s = .next t → (s.reg 29).getLsbD n = true →
    (t.reg 29).getLsbD n = false → (∃ v : Word, i = .wrIp v ∧ v.getLsbD n = false) ∨ (i = .reset ∧ 2 ≤ n)) ∧
  ∀ s : State, ∃ t, exec .reset s = .next t ∧ ∀ n, (t.reg 29).getLsbD n = decide (n < 2)

/-- For every operation i that takes s to t: if IP changed, i is WR.TXDATA, RD.IP, WR.IP, RESET, or RD.RXDATA with
RXDATA_RD_SETS_RXWM true; if IE changed, i is WR.IE or RESET. Rules R160, R165, T-IL14; the parameter is OPEN,
decision D11 (log 1), and that a watermark write leaves IP alone is decision D22 (log 20). -/
def Obligations.OnlyInterruptOperationsChangeIpOrIe : Prop :=
  ∀ (i : Instr) (s t : State), exec i s = .next t →
    (t.reg 29 ≠ s.reg 29 → (∃ v, i = .wrTxdata v) ∨ i = .rdIp ∨ (∃ v, i = .wrIp v) ∨ i = .reset ∨
      (i = .rdRxdata ∧ s.params.rxdataRdSetsRxwm = true)) ∧
    (t.reg 28 ≠ s.reg 28 → (∃ v, i = .wrIe v) ∨ i = .reset)

/-- For every state s and every operation i that makes source n pending there (R201: n = 0 by WR.TXDATA, n = 1 by
RD.IP and by RD.RXDATA where RXDATA_RD_SETS_RXWM is true, either by a WR.IP with bit n set and by RESET): whatever IE
value e is put in s, i completes, leaves the same IP, and bit n of it is 1. Where IE is 0 in s, i leaves irq 0, and a
later WR.IE of bit n alone asserts irq. Rules R166, R201; the parameter is OPEN (decision D11, log 1), and irq after
WR.IP and after RESET rests on decisions D14 and D19 (log 17, 21). -/
def Obligations.PendingIsIndependentOfEnable : Prop :=
  ∀ (s : State) (i : Instr) (n : Nat), s.makesPending i n →
    (∀ e : Word, ∃ t t', exec i s = .next t ∧ exec i (s.setReg 28 e) = .next t' ∧ t'.reg 29 = t.reg 29 ∧
      (t.reg 29).getLsbD n = true) ∧
    (s.reg 28 = 0 → ∃ t u, exec i s = .next t ∧ t.irq = false ∧ exec (.wrIe (BitVec.ofNat 32 (2 ^ n))) t = .next u ∧
      u.irq = true)

/-- WR.CSID at 0x10 and WR.CSDEF at 0x14 complete, store wdata whole, and drive each of the NUM_CS lines i to CSDEF[i]
xor (CSID = i), computed with the new register value; one Cs event per changed line, in index order; everything else
is unchanged. Rules R180, R182, R184; decisions D15 (formula), D17, D31 (log 18, 19, 24). -/
def Obligations.WritesOfCsidAndCsdefDriveTheLines : Prop :=
  WriteEncoded .wrCsid 0x10 0x40000004 ∧
  (∀ (v : Word) (s : State), exec (.wrCsid v) s = .next { s with
    bank := s.bank.set 4 v
    cs := (List.range s.numCs).map fun i => ((s.reg 5).getLsbD i ^^ decide (v = BitVec.ofNat 32 i))
    trace := s.trace ++ (List.range s.numCs).filterMap fun i =>
      if s.cs[i]? = some ((s.reg 5).getLsbD i ^^ decide (v = BitVec.ofNat 32 i)) then none else some (.cs i ((s.reg 5).getLsbD i ^^ decide (v = BitVec.ofNat 32 i)))
    rdata := none }) ∧
  WriteEncoded .wrCsdef 0x14 0x40000005 ∧
  (∀ (v : Word) (s : State), exec (.wrCsdef v) s = .next { s with
    bank := s.bank.set 5 v
    cs := (List.range s.numCs).map fun i => ((v).getLsbD i ^^ decide (s.reg 4 = BitVec.ofNat 32 i))
    trace := s.trace ++ (List.range s.numCs).filterMap fun i =>
      if s.cs[i]? = some ((v).getLsbD i ^^ decide (s.reg 4 = BitVec.ofNat 32 i)) then none else some (.cs i ((v).getLsbD i ^^ decide (s.reg 4 = BitVec.ofNat 32 i)))
    rdata := none })

/-- In every state that meets the invariants after a RESET, WR.CSMODE at 0x18 completes, stores wdata whole and
changes nothing else: no line, no Cs event; and no operation but RD.CSMODE depends on what it stored. Rule R186 (its
derivation from the invariant); decisions D15 (log 18), D18 (the lines are recomputed, log 21) and D31 (no event
without a change, log 24). -/
def Obligations.WriteCsmodeMovesNoLine : Prop :=
  WriteEncoded .wrCsmode 0x18 0x40000006 ∧ NeverRead 6 ∧ ∀ (v : Word) (s : State), s.live = true → s.Inv →
    exec (.wrCsmode v) s = .next { s with bank := s.bank.set 6 v, rdata := none }

/-- For every state and wdata v: WR.CSID completes and afterwards, for each line i below NUM_CS, line i is at the
inverse of its CSDEF bit exactly where v = i, and at its CSDEF bit otherwise; where v is NUM_CS or more no line
is selected. Rule R182 and the source's property (S4); decisions D15 and D17 (log 18, 19). -/
def Obligations.SelectAssertsExactlyOneLine : Prop :=
  ∀ (v : Word) (s : State), ∃ t, exec (.wrCsid v) s = .next t ∧ t.cs.length = s.numCs ∧
    (∀ i, i < s.numCs → (t.selected i ↔ v.toNat = i) ∧
      (v.toNat ≠ i → t.cs[i]? = some ((s.reg 5).getLsbD i))) ∧
    (s.numCs ≤ v.toNat → ∀ i, ¬ t.selected i)

/-- In every state that meets the invariants after a RESET, a line i is selected (at the inverse of its CSDEF bit)
exactly where i is below NUM_CS and CSID = i; so at most one line is selected. Rule R187; decisions D15 and D17 (log
18, 19). -/
def Obligations.AtMostOneLineSelected : Prop :=
  ∀ s : State, s.live = true → s.Inv →
    (∀ i, s.selected i ↔ i < s.numCs ∧ (s.reg 4).toNat = i) ∧ ∀ i j, s.selected i → s.selected j → i = j

/-- For every operation i that takes s to t: if irq changed, i is WR.TXDATA, RD.RXDATA with RXDATA_RD_SETS_RXWM true,
WR.IE, RD.IP, WR.IP or RESET; if cs changed, i is WR.CSID, WR.CSDEF, WR.CSMODE or RESET; so if both changed, i is
RESET. In particular a transfer moves no select line. Rules R160, R180, R202, R234; the parameter is OPEN, decision
D11 (log 1), and that WR.IP and RESET recompute irq, and WR.CSMODE and RESET the lines, are decisions D14, D18 and D19
(log 17, 21). -/
def Obligations.OutputsMoveOnlyUnderTheirOperations : Prop :=
  ∀ (i : Instr) (s t : State), exec i s = .next t →
    (t.irq ≠ s.irq → (∃ v, i = .wrTxdata v) ∨ (i = .rdRxdata ∧ s.params.rxdataRdSetsRxwm = true) ∨
      (∃ v, i = .wrIe v) ∨ i = .rdIp ∨ (∃ v, i = .wrIp v) ∨ i = .reset) ∧
    (t.cs ≠ s.cs → (∃ v, i = .wrCsid v) ∨ (∃ v, i = .wrCsdef v) ∨ (∃ v, i = .wrCsmode v) ∨ i = .reset) ∧
    (t.irq ≠ s.irq → t.cs ≠ s.cs → i = .reset)

/-- From every state (before or after a first RESET): RESET completes with TXMARK = 1, CSDEF = 1, IP = 3, every other
slot 0, irq 0, every one of the NUM_CS lines 0, an Irq(0) event where irq was 1, then a Cs(i, 0) event for each line
that was not 0, in index order; it exchanges nothing, and keeps the parameters. Rules R220, R180 and R12; the outputs
are decisions D18 and D19 (log 21) with the formula of D15 (log 18), and that a Cs event is recorded only for a line
that changes, in index order, is decision D31 (log 24). The fields for parameters, answers, queue, port and first
RESET are the model's (log 1 to 6). -/
def Obligations.ResetEstablishesResetValues : Prop :=
  ∀ s : State, ∃ t, exec .reset s = .next t ∧
    (∀ w : Slot, t.reg w = if w = 20 ∨ w = 5 then 1 else if w = 29 then 3 else 0) ∧
    t.irq = false ∧ t.cs = List.replicate s.numCs false ∧
    t.trace = s.trace ++ (if s.irq = true then [.irq false] else []) ++
      (List.range s.numCs).filterMap (fun i => if s.cs[i]? = some false then none else some (.cs i false)) ∧
    t.params = s.params ∧ t.live = true ∧ t.answers = s.answers ∧ t.pending = s.pending ∧ t.rdata = none

/-- For every parameter setting: TXMARK = 1, CSDEF = 1, IP = 3, every other slot 0, irq 0 and each of the NUM_CS lines
0; State.reset is the case of the default parameters NUM_CS = 1, IP_RD_RETURNS_UPDATED true, RXDATA_RD_SETS_RXWM
false. Rules R48, R6; the outputs are decisions D18 and D19 (log 21) with the formula of D15 (log 18); that
State.reset takes the defaults of the OPEN parameters is the model's choice (log 1). -/
def Obligations.ResetStateHoldsResetValues : Prop :=
  (∀ p : Params, (∀ w : Slot, (State.resetWith p).reg w = if w = 20 ∨ w = 5 then 1 else if w = 29 then 3 else 0) ∧
    (State.resetWith p).irq = false ∧ (State.resetWith p).cs = List.replicate p.numCs false) ∧
  State.reset.numCs = 1 ∧ State.reset.params.ipRdReturnsUpdated = true ∧
  State.reset.params.rxdataRdSetsRxwm = false

/-- For every state s: RESET completes in a state t, and RESET from t answers t again, its events included. Rule R220
(d), T-RS2 (decisions D18, D19, log 21; no event without a change: D31, log 24). -/
def Obligations.ResetTwiceIsResetOnce : Prop :=
  ∀ s : State, ∃ t, exec .reset s = .next t ∧ exec .reset t = .next t

/-- For every state s that meets the invariants of R50 (asked of states after the first RESET) and every step from s
to t, t meets them; RESET establishes them from any state. I-irq is the source's, over all 32 bits by decision D13
(log 15) and kept by WR.IP and RESET by D14 and D19 (log 17, 21); I-cs and I-tx are the spec's derivation from D15
with D17 and D18 (log 18, 19, 21) and from D8 (log 13). -/
def Obligations.StepKeepsInvariants : Prop :=
  (∀ s t : State, s.Inv → step s = .next t → t.Inv) ∧
  ∀ s : State, ∃ t, exec .reset s = .next t ∧ t.live = true ∧ t.Consistent

/-- For every parameter setting the state right after reset is after a RESET, meets I-irq, I-cs and I-tx of R50, and
its outputs are what its (empty) event list says (decisions D18, D19, log 21). I-irq, I-cs and I-tx rest on decisions
D13, D15 and D8 (log 15, 18, 13); the event list is the model's own field (log 5). -/
def Obligations.ResetStateMeetsInvariants : Prop :=
  ∀ p : Params, (State.resetWith p).live = true ∧ (State.resetWith p).Consistent ∧ (State.resetWith p).Observed

/-- Replay the events from all outputs low: every Irq(l) and Cs(i, l) event finds its output at the other level, and
the end levels are irq and cs. Every step keeps this. So consecutive Irq events alternate, the first one after a RESET
is Irq(1), and no write that leaves the level alone is notified. Rules R12, R160, R167, R180; decisions D31 (log 24)
and, for the outputs RESET leaves, D18 and D19 (log 21); the event list is the model's own field (log 5). -/
def Obligations.EventsReplayToOutputs : Prop :=
  ∀ s t : State, s.Observed → step s = .next t → t.Observed

/-- For every operation i from a state with NUM_CS lines: the events after are the events before and then some es;
replaying es from the old irq and cs gives the new irq and cs, each Irq and Cs event of es being a change of level;
and es holds an exchange exactly where i is WR.TXDATA. Rules R12, R151, R160, R180; decisions D31 (log 24) and D10
(only WR.TXDATA exchanges, log 16); the event list is the model's own field (log 5). -/
def Obligations.OperationsAppendGenuineChanges : Prop :=
  ∀ (i : Instr) (s t : State), s.cs.length = s.numCs → exec i s = .next t → ∃ es, t.trace = s.trace ++ es ∧
    replayIrq s.irq es = some t.irq ∧ replayCs s.cs es = some t.cs ∧
    (exchangesOf es).length = (match i with | .wrTxdata _ => 1 | _ => 0)

/-- For every operation i that takes s to t: NUM_CS and the two Boolean parameters are unchanged (R49), the pending
transactions are unchanged, and t is after a first RESET exactly where s was or i is RESET (R222). The fields are the
model's (log 1, 3, 6); the life of the block is decision D20. -/
def Obligations.OperationsKeepParametersAndQueue : Prop :=
  ∀ (i : Instr) (s t : State), exec i s = .next t →
    t.params = s.params ∧ t.pending = s.pending ∧ t.live = (s.live || decide (i = .reset))

/-- For every operation i that takes s to t and every slot w that changed: i is the write operation of w, or RESET, or
WR.TXDATA and w is TXDATA, RXDATA or IP, or RD.IP and w is IP, or RD.RXDATA with RXDATA_RD_SETS_RXWM true and w is IP.
Rules R63, R66, R50 (WR.TXDATA is the only operation that writes slot 18), R131. That an out-of-range write reaches no
slot is decisions D3 and D4 (log 10), and the parameter is OPEN, D11 (log 1). -/
def Obligations.SlotsWrittenOnlyByTheirOperations : Prop :=
  ∀ (i : Instr) (s t : State) (w : Slot), exec i s = .next t → t.reg w ≠ s.reg w →
    (∃ v, i = writeOperation (BitVec.ofNat 30 w.val) v) ∨ i = .reset ∨
      ((∃ v, i = .wrTxdata v) ∧ w ∈ ([18, 19, 29] : List Slot)) ∨ (i = .rdIp ∧ w = 29) ∨
      (i = .rdRxdata ∧ s.params.rxdataRdSetsRxwm = true ∧ w = 29)

/-- For every word index, in range or not: its read operation, where it is not RD.IP and not RD.RXDATA with
RXDATA_RD_SETS_RXWM true, completes and changes nothing but the value returned; and what it returns is the slot, or 0
out of range. Rules R66, R100, R120, R130, R142, R143. That RD.RXDATA exchanges nothing is decision D10 (log 16), its
parameter is OPEN by D11 (log 1), that the unnamed slots are storage is D7 (log 12), and that the range ends at index
30 without aliasing is D3 and D4 (log 10). -/
def Obligations.ReadsWithoutSideEffect : Prop :=
  ∀ (widx : WordIndex) (s : State), readOperation widx ≠ .rdIp →
    (readOperation widx = .rdRxdata → s.params.rxdataRdSetsRxwm = false) →
    exec (readOperation widx) s =
      .next { s with rdata := some (if h : widx.toNat < 30 then s.reg ⟨widx.toNat, h⟩ else 0) }

/-- After a first RESET, in states that meet the invariants, irq and every select line are determined by the register
bank and NUM_CS: the bank is all that need be persisted. Rules R44, R50; decisions D26 (log 25), D13 (irq, log 15) and
D15 (lines, log 18). -/
def Obligations.OutputsAreFunctionsOfTheBank : Prop :=
  ∀ s t : State, s.live = true → t.live = true → s.Inv → t.Inv → s.persisted = t.persisted →
    s.params = t.params → s.irq = t.irq ∧ s.cs = t.cs

/-- After a first RESET, with the two transactions of XFER b next in the queue, two steps complete; exactly one
exchange, of b's low byte, has happened, and the value returned is its answer zero-extended; the rest of the queue is
untouched. Rule R87 (decision D27, log 27); decisions D8, D9, D10 (log 13, 14, 16). The answer is any byte (D23, log
2), and the queue and the recorded events are the model's own fields (log 3, 5). -/
def Obligations.XferReturnsTheAnswer : Prop :=
  ∀ (b : Word) (s : State) (rest : List Txn), s.live = true → s.pending = expandTxns (.xfer b) ++ rest →
    ∃ (t : State) (r : Byte), Sys2Proof.core.run 2 s = .next t ∧ t.rdata = some (r.setWidth 32) ∧
      exchangesOf t.trace = exchangesOf s.trace ++ [(b.extractLsb' 0 8, r)] ∧ t.pending = rest

/-- After a first RESET, with DESELECT next in the queue, one step completes, no line is selected and each line i
below NUM_CS is at its CSDEF bit. Rule R87 (decision D27, log 27); decisions D15, D17 (log 18, 19); the queue is the
model's own field (log 3). -/
def Obligations.DeselectSelectsNoLine : Prop :=
  ∀ (s : State) (rest : List Txn), s.live = true → s.pending = expandTxns .deselect ++ rest →
    ∃ t : State, step s = .next t ∧ t.pending = rest ∧ (∀ i, ¬ t.selected i) ∧
      ∀ i, i < s.numCs → t.cs[i]? = some ((s.reg 5).getLsbD i)

/-- For every base and 32-bit offset, MemRead and MemWrite of n bytes at base + off are the read and write of n
bytes at off; every register value is recovered from its four bytes at rising addresses, and byte k holds bits
8k+7 to 8k. Rules R71, R64; decisions D4, D6 (log 10, 23). -/
def Obligations.BusAccessesReachTheBlock : Prop :=
  (∀ (base n : Nat) (offset v : Word), memRead base (base + offset.toNat) n = some (.read offset n) ∧
    memWrite base (base + offset.toNat) n v = some (.write offset n v)) ∧
  (∀ v : Word, ofByteLanes (byteLane v 0) (byteLane v 1) (byteLane v 2) (byteLane v 3) = v) ∧
  ∀ (v : Word) (k : Fin 4) (j : Nat), j < 8 → (byteLane v k).getLsbD j = v.getLsbD (8 * k.val + j)
end

