-- ==== Sys2Proof/Laws/Operands.lean ====
section
/-! SUPPORT. The laws of operand assembly: offsets and word indices are two views of one aligned offset
(30_encoding.md R82 a). -/

namespace Sys2Proof

theorem getLsbD_offsetOf (w : WordIndex) (i : Nat) :
    (offsetOf w).getLsbD i = if i < 2 then false else w.getLsbD (i - 2) :=
  (BitVec.getLsbD_append (x := w) (y := 0#2) (i := i)).trans (by simp)

/-- The offset of a word index is aligned (20_memory.md R62). -/
@[simp] theorem aligned_offsetOf (w : WordIndex) : aligned (offsetOf w) = true := by
  have h : (offsetOf w).extractLsb' 0 2 = 0 := by
    apply BitVec.eq_of_getLsbD_eq
    intro i hi
    simp [getLsbD_offsetOf, hi]
  simp [aligned, h]

/-- The word index of the offset of a word index is that index (R82 a). -/
@[simp] theorem wordIndex_offsetOf (w : WordIndex) : wordIndex (offsetOf w) = w := by
  apply BitVec.eq_of_getLsbD_eq
  intro i hi
  simp [wordIndex, getLsbD_offsetOf, hi]
  omega

theorem aligned_iff (offset : Word) : aligned offset = true ↔ offset.toNat % 4 = 0 := by
  unfold aligned
  rw [beq_iff_eq, ← BitVec.toNat_inj]
  simp

theorem toNat_wordIndex (offset : Word) : (wordIndex offset).toNat = offset.toNat / 4 := by
  have := offset.isLt
  simp [wordIndex, Nat.shiftRight_eq_div_pow]
  omega

/-- An aligned offset is the offset of its word index (R82 a). -/
theorem offsetOf_wordIndex {offset : Word} (h : aligned offset = true) : offsetOf (wordIndex offset) = offset := by
  apply BitVec.eq_of_getLsbD_eq
  intro i hi
  rw [getLsbD_offsetOf]
  split
  · rename_i hi2
    have h' : offset.extractLsb' 0 2 = 0 := by simpa [aligned] using h
    have := congrArg (·.getLsbD i) h'
    simpa [hi2] using this.symm
  · rename_i hi2
    have e : 2 + (i - 2) = i := by omega
    simp [wordIndex, e]; omega

/-- The access key as a number: `we * 2^30 + widx` (R81). -/
theorem toNat_accessKey (we : BitVec 1) (w : WordIndex) :
    (accessKey we w).toNat = we.toNat * 2 ^ 30 + w.toNat := by
  have h : (accessKey we w).toNat = we.toNat <<< 30 ||| w.toNat := BitVec.toNat_append ..
  rw [h, Nat.shiftLeft_eq, Nat.mul_comm, Nat.two_pow_add_eq_or_of_lt w.isLt]

/-- The check on a 4-byte aligned access (R85). -/
theorem accessCheck_eq_ok {offset : Word} {size : Nat} {w : WordIndex} :
    accessCheck offset size = .ok w ↔ size = 4 ∧ offset = offsetOf w := by
  unfold accessCheck
  by_cases hs : size = 4
  · by_cases ha : aligned offset = true
    · simp only [hs, ne_eq, not_true_eq_false, if_false, ha, if_true, Except.ok.injEq, true_and]
      constructor
      · rintro rfl; exact (offsetOf_wordIndex ha).symm
      · rintro rfl; simp
    · have hne : offset ≠ offsetOf w := by rintro rfl; simp at ha
      simp [hs, ha, hne]
  · simp [hs]

end Sys2Proof
end

