-- ==== Sys2Proof/Laws/Decode.lean ====
section
/-! SUPPORT. The laws of the decoder: what an aligned 4-byte access decodes to, which word indices are out of range, and
what the operation of a word index encodes to (30_encoding.md R83, R85). -/

namespace Sys2Proof

/-- From word index 30 on, the read operation is RD.OOR (R83). -/
theorem readOperation_of_le {w : WordIndex} (h : 30 ≤ w.toNat) : readOperation w = .rdOor w := by
  unfold readOperation; split <;> first | rfl | omega

/-- From word index 30 on, the write operation is WR.OOR (R83). -/
theorem writeOperation_of_le {w : WordIndex} (v : Word) (h : 30 ≤ w.toNat) : writeOperation w v = .wrOor w v := by
  unfold writeOperation; split <;> first | rfl | omega

/-- The read transaction of a word index decodes to its read operation (R85). -/
theorem decode_readTxn (w : WordIndex) : decode (readTxn w) = .ok (readOperation w) := by
  simp [decode, readTxn, accessCheck]

/-- The write transaction of a word index decodes to its write operation (R85). -/
theorem decode_writeTxn (w : WordIndex) (v : Word) : decode (writeTxn w v) = .ok (writeOperation w v) := by
  simp [decode, writeTxn, accessCheck]

/-- What a transaction that decodes is: the event `rst`, or the transaction of a word index (R84, R85). -/
theorem decode_cases {t : Txn} {i : Instr} (h : decode t = .ok i) :
    (t = .rst ∧ i = .reset) ∨ (∃ w, t = readTxn w ∧ i = readOperation w) ∨
      ∃ w v, t = writeTxn w v ∧ i = writeOperation w v := by
  cases t with
  | rst => cases h; exact .inl ⟨rfl, rfl⟩
  | read offset size =>
    simp only [decode] at h
    split at h
    · rename_i w hw
      obtain ⟨rfl, rfl⟩ := accessCheck_eq_ok.mp hw
      cases h; exact .inr (.inl ⟨w, rfl, rfl⟩)
    · cases h
  | write offset size v =>
    simp only [decode] at h
    split at h
    · rename_i w hw
      obtain ⟨rfl, rfl⟩ := accessCheck_eq_ok.mp hw
      cases h; exact .inr (.inr ⟨w, v, rfl, rfl⟩)
    · cases h

/-- The key's word index is the index it was made of (R81). -/
theorem setWidth_accessKey (we : BitVec 1) (w : WordIndex) : (accessKey we w).setWidth 30 = w := by
  apply BitVec.eq_of_toNat_eq
  rw [BitVec.toNat_setWidth, toNat_accessKey]
  have := w.isLt
  omega

end Sys2Proof
end

