-- ==== Sys2Proof/Laws/State.lean ====
section
/-! SUPPORT. The small lemmas of the state: one per field and update, and the laws of reading a slot after an update. -/

namespace Sys2Proof.Machine

/-! A slot's name stands for its word index (10_state.md R21): indices are the normal form. -/

@[simp] theorem Slot.sckdiv_eq : Slot.sckdiv = 0 := rfl
@[simp] theorem Slot.sckmode_eq : Slot.sckmode = 1 := rfl
@[simp] theorem Slot.rsvd02_eq : Slot.rsvd02 = 2 := rfl
@[simp] theorem Slot.rsvd03_eq : Slot.rsvd03 = 3 := rfl
@[simp] theorem Slot.csid_eq : Slot.csid = 4 := rfl
@[simp] theorem Slot.csdef_eq : Slot.csdef = 5 := rfl
@[simp] theorem Slot.csmode_eq : Slot.csmode = 6 := rfl
@[simp] theorem Slot.rsvd07_eq : Slot.rsvd07 = 7 := rfl
@[simp] theorem Slot.rsvd08_eq : Slot.rsvd08 = 8 := rfl
@[simp] theorem Slot.rsvd09_eq : Slot.rsvd09 = 9 := rfl
@[simp] theorem Slot.delay0_eq : Slot.delay0 = 10 := rfl
@[simp] theorem Slot.delay1_eq : Slot.delay1 = 11 := rfl
@[simp] theorem Slot.rsvd12_eq : Slot.rsvd12 = 12 := rfl
@[simp] theorem Slot.rsvd13_eq : Slot.rsvd13 = 13 := rfl
@[simp] theorem Slot.rsvd14_eq : Slot.rsvd14 = 14 := rfl
@[simp] theorem Slot.rsvd15_eq : Slot.rsvd15 = 15 := rfl
@[simp] theorem Slot.fmt_eq : Slot.fmt = 16 := rfl
@[simp] theorem Slot.rsvd17_eq : Slot.rsvd17 = 17 := rfl
@[simp] theorem Slot.txdata_eq : Slot.txdata = 18 := rfl
@[simp] theorem Slot.rxdata_eq : Slot.rxdata = 19 := rfl
@[simp] theorem Slot.txmark_eq : Slot.txmark = 20 := rfl
@[simp] theorem Slot.rxmark_eq : Slot.rxmark = 21 := rfl
@[simp] theorem Slot.rsvd22_eq : Slot.rsvd22 = 22 := rfl
@[simp] theorem Slot.rsvd23_eq : Slot.rsvd23 = 23 := rfl
@[simp] theorem Slot.fctrl_eq : Slot.fctrl = 24 := rfl
@[simp] theorem Slot.ffmt_eq : Slot.ffmt = 25 := rfl
@[simp] theorem Slot.rsvd26_eq : Slot.rsvd26 = 26 := rfl
@[simp] theorem Slot.rsvd27_eq : Slot.rsvd27 = 27 := rfl
@[simp] theorem Slot.ie_eq : Slot.ie = 28 := rfl
@[simp] theorem Slot.ip_eq : Slot.ip = 29 := rfl

@[simp] theorem State.setReg_bank (s : State) (w : Slot) (v : Word) : (s.setReg w v).bank = s.bank.set w v := rfl
@[simp] theorem State.setReg_irq (s : State) (w : Slot) (v : Word) : (s.setReg w v).irq = s.irq := rfl
@[simp] theorem State.setReg_cs (s : State) (w : Slot) (v : Word) : (s.setReg w v).cs = s.cs := rfl
@[simp] theorem State.setReg_params (s : State) (w : Slot) (v : Word) : (s.setReg w v).params = s.params := rfl
@[simp] theorem State.setReg_live (s : State) (w : Slot) (v : Word) : (s.setReg w v).live = s.live := rfl
@[simp] theorem State.setReg_rdata (s : State) (w : Slot) (v : Word) : (s.setReg w v).rdata = s.rdata := rfl
@[simp] theorem State.setReg_trace (s : State) (w : Slot) (v : Word) : (s.setReg w v).trace = s.trace := rfl
@[simp] theorem State.setReg_answers (s : State) (w : Slot) (v : Word) : (s.setReg w v).answers = s.answers := rfl
@[simp] theorem State.setReg_pending (s : State) (w : Slot) (v : Word) : (s.setReg w v).pending = s.pending := rfl
@[simp] theorem State.setReg_numCs (s : State) (w : Slot) (v : Word) : (s.setReg w v).numCs = s.numCs := rfl

@[simp] theorem State.updateIrq_bank (s : State) : s.updateIrq.bank = s.bank := rfl
@[simp] theorem State.updateIrq_irq (s : State) : s.updateIrq.irq = s.irqNow := rfl
@[simp] theorem State.updateIrq_cs (s : State) : s.updateIrq.cs = s.cs := rfl
@[simp] theorem State.updateIrq_params (s : State) : s.updateIrq.params = s.params := rfl
@[simp] theorem State.updateIrq_live (s : State) : s.updateIrq.live = s.live := rfl
@[simp] theorem State.updateIrq_rdata (s : State) : s.updateIrq.rdata = s.rdata := rfl
@[simp] theorem State.updateIrq_trace (s : State) : s.updateIrq.trace = s.trace ++ s.irqEvents := rfl
@[simp] theorem State.updateIrq_answers (s : State) : s.updateIrq.answers = s.answers := rfl
@[simp] theorem State.updateIrq_pending (s : State) : s.updateIrq.pending = s.pending := rfl
@[simp] theorem State.updateIrq_numCs (s : State) : s.updateIrq.numCs = s.numCs := rfl

@[simp] theorem State.updateCs_bank (s : State) : s.updateCs.bank = s.bank := rfl
@[simp] theorem State.updateCs_irq (s : State) : s.updateCs.irq = s.irq := rfl
@[simp] theorem State.updateCs_cs (s : State) : s.updateCs.cs = csLevels s.numCs (s.reg 5) (s.reg 4) := rfl
@[simp] theorem State.updateCs_params (s : State) : s.updateCs.params = s.params := rfl
@[simp] theorem State.updateCs_live (s : State) : s.updateCs.live = s.live := rfl
@[simp] theorem State.updateCs_rdata (s : State) : s.updateCs.rdata = s.rdata := rfl
@[simp] theorem State.updateCs_trace (s : State) : s.updateCs.trace = s.trace ++ s.csEvents := rfl
@[simp] theorem State.updateCs_answers (s : State) : s.updateCs.answers = s.answers := rfl
@[simp] theorem State.updateCs_pending (s : State) : s.updateCs.pending = s.pending := rfl
@[simp] theorem State.updateCs_numCs (s : State) : s.updateCs.numCs = s.numCs := rfl

@[simp] theorem State.exchange_bank (s : State) (tx : Byte) : (s.exchange tx).bank = s.bank := rfl
@[simp] theorem State.exchange_irq (s : State) (tx : Byte) : (s.exchange tx).irq = s.irq := rfl
@[simp] theorem State.exchange_cs (s : State) (tx : Byte) : (s.exchange tx).cs = s.cs := rfl
@[simp] theorem State.exchange_params (s : State) (tx : Byte) : (s.exchange tx).params = s.params := rfl
@[simp] theorem State.exchange_live (s : State) (tx : Byte) : (s.exchange tx).live = s.live := rfl
@[simp] theorem State.exchange_rdata (s : State) (tx : Byte) : (s.exchange tx).rdata = s.rdata := rfl
@[simp] theorem State.exchange_trace (s : State) (tx : Byte) : (s.exchange tx).trace = s.trace ++ [.exch tx (s.answer tx)] := rfl
@[simp] theorem State.exchange_answers (s : State) (tx : Byte) : (s.exchange tx).answers = s.answers.tail := rfl
@[simp] theorem State.exchange_pending (s : State) (tx : Byte) : (s.exchange tx).pending = s.pending := rfl
@[simp] theorem State.exchange_numCs (s : State) (tx : Byte) : (s.exchange tx).numCs = s.numCs := rfl

@[simp] theorem State.pendRx_bank (s : State) : s.pendRx.bank = s.bank.set 29 (setRxwm (s.reg 29)) := rfl
@[simp] theorem State.pendRx_cs (s : State) : s.pendRx.cs = s.cs := rfl
@[simp] theorem State.pendRx_params (s : State) : s.pendRx.params = s.params := rfl
@[simp] theorem State.pendRx_live (s : State) : s.pendRx.live = s.live := rfl
@[simp] theorem State.pendRx_rdata (s : State) : s.pendRx.rdata = s.rdata := rfl
@[simp] theorem State.pendRx_answers (s : State) : s.pendRx.answers = s.answers := rfl
@[simp] theorem State.pendRx_pending (s : State) : s.pendRx.pending = s.pending := rfl
@[simp] theorem State.pendRx_numCs (s : State) : s.pendRx.numCs = s.numCs := rfl

@[simp] theorem State.pendTx_bank (s : State) : s.pendTx.bank = s.bank.set 29 (setTxwm (s.reg 29)) := rfl
@[simp] theorem State.pendTx_cs (s : State) : s.pendTx.cs = s.cs := rfl
@[simp] theorem State.pendTx_params (s : State) : s.pendTx.params = s.params := rfl
@[simp] theorem State.pendTx_live (s : State) : s.pendTx.live = s.live := rfl
@[simp] theorem State.pendTx_rdata (s : State) : s.pendTx.rdata = s.rdata := rfl
@[simp] theorem State.pendTx_answers (s : State) : s.pendTx.answers = s.answers := rfl
@[simp] theorem State.pendTx_pending (s : State) : s.pendTx.pending = s.pending := rfl
@[simp] theorem State.pendTx_numCs (s : State) : s.pendTx.numCs = s.numCs := rfl

@[simp] theorem State.present_bank (s : State) (t : Txn) : (s.present t).bank = s.bank := rfl
@[simp] theorem State.present_irq (s : State) (t : Txn) : (s.present t).irq = s.irq := rfl
@[simp] theorem State.present_cs (s : State) (t : Txn) : (s.present t).cs = s.cs := rfl
@[simp] theorem State.present_params (s : State) (t : Txn) : (s.present t).params = s.params := rfl
@[simp] theorem State.present_live (s : State) (t : Txn) : (s.present t).live = s.live := rfl
@[simp] theorem State.present_rdata (s : State) (t : Txn) : (s.present t).rdata = s.rdata := rfl
@[simp] theorem State.present_trace (s : State) (t : Txn) : (s.present t).trace = s.trace := rfl
@[simp] theorem State.present_answers (s : State) (t : Txn) : (s.present t).answers = s.answers := rfl
@[simp] theorem State.present_pending (s : State) (t : Txn) : (s.present t).pending = t :: s.pending := rfl
@[simp] theorem State.present_numCs (s : State) (t : Txn) : (s.present t).numCs = s.numCs := rfl

@[simp] theorem State.receive_bank (s : State) (tx : Byte) : (s.receive tx).bank = s.bank.set 19 (zext32 (s.answer tx)) := rfl
@[simp] theorem State.receive_irq (s : State) (tx : Byte) : (s.receive tx).irq = s.irq := rfl
@[simp] theorem State.receive_cs (s : State) (tx : Byte) : (s.receive tx).cs = s.cs := rfl
@[simp] theorem State.receive_params (s : State) (tx : Byte) : (s.receive tx).params = s.params := rfl
@[simp] theorem State.receive_live (s : State) (tx : Byte) : (s.receive tx).live = s.live := rfl
@[simp] theorem State.receive_rdata (s : State) (tx : Byte) : (s.receive tx).rdata = s.rdata := rfl
@[simp] theorem State.receive_trace (s : State) (tx : Byte) : (s.receive tx).trace = s.trace ++ [.exch tx (s.answer tx)] := rfl
@[simp] theorem State.receive_answers (s : State) (tx : Byte) : (s.receive tx).answers = s.answers.tail := rfl
@[simp] theorem State.receive_pending (s : State) (tx : Byte) : (s.receive tx).pending = s.pending := rfl
@[simp] theorem State.receive_numCs (s : State) (tx : Byte) : (s.receive tx).numCs = s.numCs := rfl

theorem State.reg_eq (s : State) (w : Slot) : s.reg w = s.bank[w] := rfl

/-- A slot reads as written (20_memory.md R68 a). -/
@[simp] theorem State.reg_setReg_same (s : State) (w : Slot) (v : Word) : (s.setReg w v).reg w = v := by
  simp [State.reg]

/-- A write changes one slot only (20_memory.md R63). -/
@[simp] theorem State.reg_setReg_ne (s : State) {w w' : Slot} (v : Word) (h : w' ≠ w) :
    (s.setReg w v).reg w' = s.reg w' := by
  have hv : w.val ≠ w'.val := fun e => h (Fin.ext e.symm)
  simp [State.reg, Vector.getElem_set_ne _ _ hv]

theorem State.reg_setReg (s : State) (w w' : Slot) (v : Word) :
    (s.setReg w v).reg w' = if w' = w then v else s.reg w' := by
  by_cases h : w' = w
  · subst h; simp
  · simp [h]

/-- The write of the value a slot already holds changes nothing. -/
theorem State.setReg_reg_self (s : State) (w : Slot) : s.setReg w (s.reg w) = s := by
  cases s; simp [State.setReg, State.reg]

@[simp] theorem State.reg_updateIrq (s : State) (w : Slot) : s.updateIrq.reg w = s.reg w := rfl
@[simp] theorem State.reg_updateCs (s : State) (w : Slot) : s.updateCs.reg w = s.reg w := rfl
@[simp] theorem State.reg_exchange (s : State) (tx : Byte) (w : Slot) : (s.exchange tx).reg w = s.reg w := rfl
@[simp] theorem State.reg_present (s : State) (t : Txn) (w : Slot) : (s.present t).reg w = s.reg w := rfl

@[simp] theorem State.reg_receive_rxdata (s : State) (tx : Byte) :
    (s.receive tx).reg 19 = zext32 (s.answer tx) := by
  simp [State.receive]

@[simp] theorem State.reg_receive_ne (s : State) (tx : Byte) {w : Slot} (h : w ≠ 19) :
    (s.receive tx).reg w = s.reg w := by
  simp [State.receive, h]

@[simp] theorem State.reg_pendRx_ip (s : State) : s.pendRx.reg 29 = setRxwm (s.reg 29) := by
  simp [State.pendRx]

@[simp] theorem State.reg_pendRx_ne (s : State) {w : Slot} (h : w ≠ 29) : s.pendRx.reg w = s.reg w := by
  simp [State.pendRx, h]

@[simp] theorem State.reg_pendTx_ip (s : State) : s.pendTx.reg 29 = setTxwm (s.reg 29) := by
  simp [State.pendTx]

@[simp] theorem State.reg_pendTx_ne (s : State) {w : Slot} (h : w ≠ 29) : s.pendTx.reg w = s.reg w := by
  simp [State.pendTx, h]

/-- Two states with the same bank hold the same slots, and conversely. -/
theorem State.bank_eq_iff (s t : State) : s.bank = t.bank ↔ ∀ w, s.reg w = t.reg w := by
  constructor
  · intro h w; simp [State.reg, h]
  · intro h; apply Vector.ext; intro i hi; exact h ⟨i, hi⟩

end Sys2Proof.Machine
end

