-- ==== Sys2Proof/Laws/Events.lean ====
section
/-! SUPPORT. What the events of `UpdateIrq`, `UpdateCs` and `Exchange` say when replayed (00_scope.md R12,
42_interrupt_logic.md R160, 43_chip_select.md R180), and how replaying goes through a list of events. -/

namespace Sys2Proof.Machine

theorem exchangesOf_append (a b : List Event) : exchangesOf (a ++ b) = exchangesOf a ++ exchangesOf b := by
  simp [exchangesOf]

theorem replayIrq_append (l : Bool) (a b : List Event) :
    replayIrq l (a ++ b) = (replayIrq l a).bind (replayIrq · b) := by
  induction a generalizing l with
  | nil => rfl
  | cons e a ih =>
    cases e <;> simp only [List.cons_append, replayIrq]
    · exact ih l
    · split
      · rfl
      · exact ih _
    · exact ih l

theorem replayCs_append (l : List Bool) (a b : List Event) :
    replayCs l (a ++ b) = (replayCs l a).bind (replayCs · b) := by
  induction a generalizing l with
  | nil => rfl
  | cons e a ih =>
    cases e <;> simp only [List.cons_append, replayCs]
    · exact ih l
    · exact ih l
    · split
      · exact ih _
      · rfl

/-- Replaying keeps the number of lines. -/
theorem length_of_replayCs {l l' : List Bool} {es : List Event} (h : replayCs l es = some l') :
    l'.length = l.length := by
  induction es generalizing l with
  | nil => cases h; rfl
  | cons e es ih =>
    cases e <;> simp only [replayCs] at h
    · exact ih h
    · exact ih h
    · split at h
      · rw [ih h]; simp
      · cases h

/-! `UpdateIrq` says its level, moves no line and exchanges nothing. -/

theorem exchangesOf_irqEvents (s : State) : exchangesOf s.irqEvents = [] := by
  unfold State.irqEvents; split <;> rfl

theorem replayIrq_irqEvents (s : State) : replayIrq s.irq s.irqEvents = some s.irqNow := by
  unfold State.irqEvents
  by_cases h : s.irqNow = s.irq <;> simp [h, replayIrq]

theorem replayCs_irqEvents (s : State) (l : List Bool) : replayCs l s.irqEvents = some l := by
  unfold State.irqEvents; split <;> rfl

/-! `UpdateCs` says its levels, leaves `irq` alone and exchanges nothing. -/

theorem exchangesOf_csEvents (s : State) : exchangesOf s.csEvents = [] := by
  unfold State.csEvents exchangesOf
  rw [List.filterMap_filterMap, List.filterMap_eq_nil_iff]
  intro i _; split <;> rfl

theorem replayIrq_csEvents (s : State) (l : Bool) : replayIrq l s.csEvents = some l := by
  unfold State.csEvents
  generalize List.range s.numCs = r
  induction r with
  | nil => rfl
  | cons i r ih =>
    rw [List.filterMap_cons]
    split
    · exact ih
    · rename_i heq; split at heq <;> cases heq; exact ih

/-- Replaying one change event per differing line, for the first `k` lines in order, brings those lines to their
levels. -/
theorem replayCs_changes (f : Nat → Bool) (l : List Bool) (k : Nat) (hk : k ≤ l.length) :
    replayCs l ((List.range k).filterMap fun i => if l[i]? = some (f i) then none else some (.cs i (f i))) =
      some ((List.range k).map f ++ l.drop k) := by
  induction k with
  | zero => simp [replayCs]
  | succ k ih =>
    have hk' : k < l.length := by omega
    rw [List.range_succ, List.filterMap_append, replayCs_append, ih (by omega)]
    simp only [Option.bind_some, List.filterMap_cons, List.filterMap_nil, List.map_append, List.map_cons,
      List.map_nil]
    rw [List.drop_eq_getElem_cons hk']
    by_cases h : l[k] = f k
    · simp [h, hk', replayCs]
    · have h' : l[k]? ≠ some (f k) := by simpa [hk'] using h
      have h3 : l[k] = !f k := by cases hl : l[k] <;> cases hf : f k <;> simp_all
      have e : ((List.range k).map f ++ (!f k) :: l.drop (k + 1))[k]? = some (!f k) := by
        rw [List.getElem?_append_right (by simp)]; simp
      simp only [h', if_false, replayCs, h3, e, if_true]
      rw [List.set_append_right _ _ (by simp)]
      simp

theorem replayCs_csEvents (s : State) (h : s.cs.length = s.numCs) :
    replayCs s.cs s.csEvents = some s.updateCs.cs := by
  have e := replayCs_changes s.csNow s.cs s.numCs (Nat.le_of_eq h.symm)
  unfold State.csEvents
  rw [e]; simp [← h]; rfl

end Sys2Proof.Machine
end

