-- ==== Sys2Proof/Laws/Exec.lean ====
section
/-! SUPPORT. What each shared operation can do, and the one inversion lemma of exec: an operation that answers a next
state has one of thirteen effects. -/

namespace Sys2Proof.Machine

theorem State.complete_eq_next {s t : State} : s.complete = .next t ↔ t = { s with rdata := none } := by
  simp [State.complete, eq_comm]

theorem State.returns_eq_next {s t : State} {v : Word} : s.returns v = .next t ↔ t = { s with rdata := some v } := by
  simp [State.returns, eq_comm]

/-- `UpdateIrq` leaves `irq_q` at the level it computes (42_interrupt_logic.md R160). -/
theorem State.updateIrq_irq_eq (s : State) : s.updateIrq.irq = decide (s.reg 29 &&& s.reg 28 ≠ 0) := by
  simp [State.irqNow, irqLevel, bne, beq_eq_decide]

/-- The level `UpdateIrq` computes, in the words of R160. -/
theorem State.irqNow_eq (s : State) : s.irqNow = decide (s.reg 29 &&& s.reg 28 ≠ 0) := by
  simp [State.irqNow, irqLevel, bne, beq_eq_decide]

/-- The level `UpdateCs` computes, in the words of R180. -/
theorem State.csNow_eq (s : State) (i : Nat) :
    s.csNow i = ((s.reg 5).getLsbD i ^^ decide (s.reg 4 = BitVec.ofNat 32 i)) := by
  simp [State.csNow, csLevel, csSelected, beq_eq_decide]

/-- `UpdateIrq` emits nothing where the level is already driven (R160). -/
theorem State.irqEvents_eq_nil {s : State} (h : s.irqNow = s.irq) : s.irqEvents = [] := by
  simp [State.irqEvents, h]

/-- `UpdateIrq` changes nothing where the level is already driven (R160). -/
theorem State.updateIrq_eq_self {s : State} (h : s.irqNow = s.irq) : s.updateIrq = s := by
  cases s; simp_all [State.updateIrq, State.irqEvents]

/-- A second `UpdateIrq` changes nothing. -/
theorem State.updateIrq_updateIrq (s : State) : s.updateIrq.updateIrq = s.updateIrq :=
  State.updateIrq_eq_self rfl

theorem csLevels_length (n : Nat) (csdef csid : Word) : (csLevels n csdef csid).length = n := by
  simp [csLevels]

theorem csLevels_getElem? {n i : Nat} (csdef csid : Word) (h : i < n) :
    (csLevels n csdef csid)[i]? = some (csLevel csdef csid i) := by
  simp [csLevels, h]

/-- `UpdateCs` emits nothing where every line is already at its level (43_chip_select.md R180). -/
theorem State.csEvents_eq_nil {s : State} (h : ∀ i, i < s.numCs → s.cs[i]? = some (s.csNow i)) : s.csEvents = [] := by
  rw [State.csEvents, List.filterMap_eq_nil_iff]
  intro i hi
  simp [h i (List.mem_range.mp hi)]

/-- `UpdateCs` changes nothing where there are `NUM_CS` lines and each is already at its level (R180, R186). -/
theorem State.updateCs_eq_self {s : State} (hl : s.cs.length = s.numCs)
    (h : ∀ i, i < s.numCs → s.cs[i]? = some (s.csNow i)) : s.updateCs = s := by
  have hcs : csLevels s.numCs (s.reg 5) (s.reg 4) = s.cs := by
    apply List.ext_getElem? ; intro i
    by_cases hi : i < s.numCs
    · rw [csLevels_getElem? _ _ hi, h i hi]; rfl
    · simp [csLevels, hl, Nat.le_of_not_lt hi]
  have he := State.csEvents_eq_nil h
  cases s; simp_all [State.updateCs]

/-- A second `UpdateCs` changes nothing. -/
theorem State.updateCs_updateCs (s : State) : s.updateCs.updateCs = s.updateCs :=
  State.updateCs_eq_self (csLevels_length ..) fun _ hi => csLevels_getElem? _ _ hi

/-- The slots whose write stores and does nothing else: all but CSID, CSDEF, CSMODE, TXDATA, IE and IP. -/
abbrev plainSlots : List Slot := [0, 1, 2, 3, 7, 8, 9, 10, 11, 12, 13, 14, 15, 16, 17, 19, 20, 21, 22, 23, 24, 25, 26, 27]

/-- The effects an operation can have: which operation it is, and the state it leaves. -/
inductive Effect (s : State) : Instr → State → Prop where
  /-- A read with no side effect (40_register_bank.md R100). -/
  | plainRead (w : Slot) (h : w ≠ 29) (hrx : w = 19 → s.params.rxdataRdSetsRxwm = false) :
      Effect s (readOperation (BitVec.ofNat 30 w.val)) { s with rdata := some (s.reg w) }
  /-- R130. -/
  | oorRead (widx : WordIndex) : Effect s (.rdOor widx) { s with rdata := some 0 }
  /-- R163. -/
  | ipRead : Effect s .rdIp { s.pendRx with
      rdata := some (if s.params.ipRdReturnsUpdated then setRxwm (s.reg 29) else s.reg 29) }
  /-- R143 under `RXDATA_RD_SETS_RXWM`. -/
  | rxRead (h : s.params.rxdataRdSetsRxwm = true) : Effect s .rdRxdata { s.pendRx with rdata := some (s.reg 19) }
  /-- R131. -/
  | oorWrite (widx : WordIndex) (v : Word) : Effect s (.wrOor widx v) { s with rdata := none }
  /-- A write that stores and does nothing else (R100). -/
  | plainWrite (w : Slot) (v : Word) (h : w ∈ plainSlots) :
      Effect s (writeOperation (BitVec.ofNat 30 w.val) v) { s.setReg w v with rdata := none }
  /-- R140. -/
  | transfer (v : Word) : Effect s (.wrTxdata v)
      { ((s.setReg 18 (zext32 (txByte v))).receive (txByte v)).pendTx with rdata := none }
  /-- R162. -/
  | ieWrite (v : Word) : Effect s (.wrIe v) { (s.setReg 28 v).updateIrq with rdata := none }
  /-- R164. -/
  | ipWrite (v : Word) : Effect s (.wrIp v) { (s.setReg 29 v).updateIrq with rdata := none }
  /-- R182. -/
  | csidWrite (v : Word) : Effect s (.wrCsid v) { (s.setReg 4 v).updateCs with rdata := none }
  /-- R184. -/
  | csdefWrite (v : Word) : Effect s (.wrCsdef v) { (s.setReg 5 v).updateCs with rdata := none }
  /-- R186. -/
  | csmodeWrite (v : Word) : Effect s (.wrCsmode v) { (s.setReg 6 v).updateCs with rdata := none }
  /-- R220. -/
  | reset : Effect s .reset { s.resetRegisters.updateIrq.updateCs with live := true, rdata := none }

theorem execRdRxdata_of_false {s : State} (h : s.params.rxdataRdSetsRxwm = false) :
    execRdRxdata s = .next { s with rdata := some (s.reg 19) } := by
  simp [execRdRxdata, h, State.returns]

theorem execRdRxdata_of_true {s : State} (h : s.params.rxdataRdSetsRxwm = true) :
    execRdRxdata s = .next { s.pendRx with rdata := some (s.reg 19) } := by
  simp [execRdRxdata, h, State.returns]

/-- Every operation completes, and with one of the effects (60_exceptions.md R200). -/
theorem exec_effect (i : Instr) (s : State) : ∃ t, exec i s = .next t ∧ Effect s i t := by
  cases i with
  | rdSckdiv => exact ⟨_, rfl, .plainRead 0 (by decide) (absurd · (by decide))⟩
  | wrSckdiv wdata => exact ⟨_, rfl, .plainWrite 0 wdata (by decide)⟩
  | rdSckmode => exact ⟨_, rfl, .plainRead 1 (by decide) (absurd · (by decide))⟩
  | wrSckmode wdata => exact ⟨_, rfl, .plainWrite 1 wdata (by decide)⟩
  | rdRsvd02 => exact ⟨_, rfl, .plainRead 2 (by decide) (absurd · (by decide))⟩
  | wrRsvd02 wdata => exact ⟨_, rfl, .plainWrite 2 wdata (by decide)⟩
  | rdRsvd03 => exact ⟨_, rfl, .plainRead 3 (by decide) (absurd · (by decide))⟩
  | wrRsvd03 wdata => exact ⟨_, rfl, .plainWrite 3 wdata (by decide)⟩
  | rdCsid => exact ⟨_, rfl, .plainRead 4 (by decide) (absurd · (by decide))⟩
  | wrCsid wdata => exact ⟨_, rfl, .csidWrite wdata⟩
  | rdCsdef => exact ⟨_, rfl, .plainRead 5 (by decide) (absurd · (by decide))⟩
  | wrCsdef wdata => exact ⟨_, rfl, .csdefWrite wdata⟩
  | rdCsmode => exact ⟨_, rfl, .plainRead 6 (by decide) (absurd · (by decide))⟩
  | wrCsmode wdata => exact ⟨_, rfl, .csmodeWrite wdata⟩
  | rdRsvd07 => exact ⟨_, rfl, .plainRead 7 (by decide) (absurd · (by decide))⟩
  | wrRsvd07 wdata => exact ⟨_, rfl, .plainWrite 7 wdata (by decide)⟩
  | rdRsvd08 => exact ⟨_, rfl, .plainRead 8 (by decide) (absurd · (by decide))⟩
  | wrRsvd08 wdata => exact ⟨_, rfl, .plainWrite 8 wdata (by decide)⟩
  | rdRsvd09 => exact ⟨_, rfl, .plainRead 9 (by decide) (absurd · (by decide))⟩
  | wrRsvd09 wdata => exact ⟨_, rfl, .plainWrite 9 wdata (by decide)⟩
  | rdDelay0 => exact ⟨_, rfl, .plainRead 10 (by decide) (absurd · (by decide))⟩
  | wrDelay0 wdata => exact ⟨_, rfl, .plainWrite 10 wdata (by decide)⟩
  | rdDelay1 => exact ⟨_, rfl, .plainRead 11 (by decide) (absurd · (by decide))⟩
  | wrDelay1 wdata => exact ⟨_, rfl, .plainWrite 11 wdata (by decide)⟩
  | rdRsvd12 => exact ⟨_, rfl, .plainRead 12 (by decide) (absurd · (by decide))⟩
  | wrRsvd12 wdata => exact ⟨_, rfl, .plainWrite 12 wdata (by decide)⟩
  | rdRsvd13 => exact ⟨_, rfl, .plainRead 13 (by decide) (absurd · (by decide))⟩
  | wrRsvd13 wdata => exact ⟨_, rfl, .plainWrite 13 wdata (by decide)⟩
  | rdRsvd14 => exact ⟨_, rfl, .plainRead 14 (by decide) (absurd · (by decide))⟩
  | wrRsvd14 wdata => exact ⟨_, rfl, .plainWrite 14 wdata (by decide)⟩
  | rdRsvd15 => exact ⟨_, rfl, .plainRead 15 (by decide) (absurd · (by decide))⟩
  | wrRsvd15 wdata => exact ⟨_, rfl, .plainWrite 15 wdata (by decide)⟩
  | rdFmt => exact ⟨_, rfl, .plainRead 16 (by decide) (absurd · (by decide))⟩
  | wrFmt wdata => exact ⟨_, rfl, .plainWrite 16 wdata (by decide)⟩
  | rdRsvd17 => exact ⟨_, rfl, .plainRead 17 (by decide) (absurd · (by decide))⟩
  | wrRsvd17 wdata => exact ⟨_, rfl, .plainWrite 17 wdata (by decide)⟩
  | rdTxdata => exact ⟨_, rfl, .plainRead 18 (by decide) (absurd · (by decide))⟩
  | wrTxdata wdata => exact ⟨_, rfl, .transfer wdata⟩
  | rdRxdata =>
    cases h : s.params.rxdataRdSetsRxwm with
    | false => exact ⟨_, execRdRxdata_of_false h, .plainRead 19 (by decide) fun _ => h⟩
    | true => exact ⟨_, execRdRxdata_of_true h, .rxRead h⟩
  | wrRxdata wdata => exact ⟨_, rfl, .plainWrite 19 wdata (by decide)⟩
  | rdTxmark => exact ⟨_, rfl, .plainRead 20 (by decide) (absurd · (by decide))⟩
  | wrTxmark wdata => exact ⟨_, rfl, .plainWrite 20 wdata (by decide)⟩
  | rdRxmark => exact ⟨_, rfl, .plainRead 21 (by decide) (absurd · (by decide))⟩
  | wrRxmark wdata => exact ⟨_, rfl, .plainWrite 21 wdata (by decide)⟩
  | rdRsvd22 => exact ⟨_, rfl, .plainRead 22 (by decide) (absurd · (by decide))⟩
  | wrRsvd22 wdata => exact ⟨_, rfl, .plainWrite 22 wdata (by decide)⟩
  | rdRsvd23 => exact ⟨_, rfl, .plainRead 23 (by decide) (absurd · (by decide))⟩
  | wrRsvd23 wdata => exact ⟨_, rfl, .plainWrite 23 wdata (by decide)⟩
  | rdFctrl => exact ⟨_, rfl, .plainRead 24 (by decide) (absurd · (by decide))⟩
  | wrFctrl wdata => exact ⟨_, rfl, .plainWrite 24 wdata (by decide)⟩
  | rdFfmt => exact ⟨_, rfl, .plainRead 25 (by decide) (absurd · (by decide))⟩
  | wrFfmt wdata => exact ⟨_, rfl, .plainWrite 25 wdata (by decide)⟩
  | rdRsvd26 => exact ⟨_, rfl, .plainRead 26 (by decide) (absurd · (by decide))⟩
  | wrRsvd26 wdata => exact ⟨_, rfl, .plainWrite 26 wdata (by decide)⟩
  | rdRsvd27 => exact ⟨_, rfl, .plainRead 27 (by decide) (absurd · (by decide))⟩
  | wrRsvd27 wdata => exact ⟨_, rfl, .plainWrite 27 wdata (by decide)⟩
  | rdIe => exact ⟨_, rfl, .plainRead 28 (by decide) (absurd · (by decide))⟩
  | wrIe wdata => exact ⟨_, rfl, .ieWrite wdata⟩
  | rdIp => exact ⟨_, by simp only [exec, execRdIp, State.returns, State.reg_pendRx_ip], .ipRead⟩
  | wrIp wdata => exact ⟨_, rfl, .ipWrite wdata⟩
  | rdOor widx => exact ⟨_, rfl, .oorRead widx⟩
  | wrOor widx wdata => exact ⟨_, rfl, .oorWrite widx wdata⟩
  | reset => exact ⟨_, rfl, .reset⟩

/-- What an operation that answers a next state did. -/
theorem effect_of_exec {i : Instr} {s t : State} (h : exec i s = .next t) : Effect s i t := by
  obtain ⟨t', h', e⟩ := exec_effect i s
  rw [h] at h'; cases h'; exact e

end Sys2Proof.Machine
end

