-- ==== Sys2Proof/Laws/PerInstr.lean ====
section
/-! SUPPORT. The per-instruction family EncodesToOperation: the transaction of an operation is an operation of the
block (4 bytes, aligned), and it has an access key exactly where its format is ACC. -/

namespace Sys2Proof.Laws.EncodesToOperation

/-- The transaction is a 4-byte aligned access with an access key, or the event `rst` without one (30_encoding.md
R80, R81). -/
def isOperation (t : Txn) : Bool :=
  match t with
  | .rst => t.key.isNone
  | .read offset size => size == 4 && aligned offset && t.key.isSome
  | .write offset size _ => size == 4 && aligned offset && t.key.isSome

/-- The transaction of `i` is an operation of the block (R84, R85). -/
def Statement (i : Instr) : Prop := isOperation (encode i) = true

theorem readTxn_isOperation (w : WordIndex) : isOperation (readTxn w) = true := by
  simp [isOperation, readTxn, Txn.key, aligned_offsetOf]

theorem writeTxn_isOperation (w : WordIndex) (v : Word) : isOperation (writeTxn w v) = true := by
  simp [isOperation, writeTxn, Txn.key, aligned_offsetOf]

theorem rdSckdiv : Statement .rdSckdiv := readTxn_isOperation _
theorem wrSckdiv (wdata : Word) : Statement (.wrSckdiv wdata) := writeTxn_isOperation _ _
theorem rdSckmode : Statement .rdSckmode := readTxn_isOperation _
theorem wrSckmode (wdata : Word) : Statement (.wrSckmode wdata) := writeTxn_isOperation _ _
theorem rdRsvd02 : Statement .rdRsvd02 := readTxn_isOperation _
theorem wrRsvd02 (wdata : Word) : Statement (.wrRsvd02 wdata) := writeTxn_isOperation _ _
theorem rdRsvd03 : Statement .rdRsvd03 := readTxn_isOperation _
theorem wrRsvd03 (wdata : Word) : Statement (.wrRsvd03 wdata) := writeTxn_isOperation _ _
theorem rdCsid : Statement .rdCsid := readTxn_isOperation _
theorem wrCsid (wdata : Word) : Statement (.wrCsid wdata) := writeTxn_isOperation _ _
theorem rdCsdef : Statement .rdCsdef := readTxn_isOperation _
theorem wrCsdef (wdata : Word) : Statement (.wrCsdef wdata) := writeTxn_isOperation _ _
theorem rdCsmode : Statement .rdCsmode := readTxn_isOperation _
theorem wrCsmode (wdata : Word) : Statement (.wrCsmode wdata) := writeTxn_isOperation _ _
theorem rdRsvd07 : Statement .rdRsvd07 := readTxn_isOperation _
theorem wrRsvd07 (wdata : Word) : Statement (.wrRsvd07 wdata) := writeTxn_isOperation _ _
theorem rdRsvd08 : Statement .rdRsvd08 := readTxn_isOperation _
theorem wrRsvd08 (wdata : Word) : Statement (.wrRsvd08 wdata) := writeTxn_isOperation _ _
theorem rdRsvd09 : Statement .rdRsvd09 := readTxn_isOperation _
theorem wrRsvd09 (wdata : Word) : Statement (.wrRsvd09 wdata) := writeTxn_isOperation _ _
theorem rdDelay0 : Statement .rdDelay0 := readTxn_isOperation _
theorem wrDelay0 (wdata : Word) : Statement (.wrDelay0 wdata) := writeTxn_isOperation _ _
theorem rdDelay1 : Statement .rdDelay1 := readTxn_isOperation _
theorem wrDelay1 (wdata : Word) : Statement (.wrDelay1 wdata) := writeTxn_isOperation _ _
theorem rdRsvd12 : Statement .rdRsvd12 := readTxn_isOperation _
theorem wrRsvd12 (wdata : Word) : Statement (.wrRsvd12 wdata) := writeTxn_isOperation _ _
theorem rdRsvd13 : Statement .rdRsvd13 := readTxn_isOperation _
theorem wrRsvd13 (wdata : Word) : Statement (.wrRsvd13 wdata) := writeTxn_isOperation _ _
theorem rdRsvd14 : Statement .rdRsvd14 := readTxn_isOperation _
theorem wrRsvd14 (wdata : Word) : Statement (.wrRsvd14 wdata) := writeTxn_isOperation _ _
theorem rdRsvd15 : Statement .rdRsvd15 := readTxn_isOperation _
theorem wrRsvd15 (wdata : Word) : Statement (.wrRsvd15 wdata) := writeTxn_isOperation _ _
theorem rdFmt : Statement .rdFmt := readTxn_isOperation _
theorem wrFmt (wdata : Word) : Statement (.wrFmt wdata) := writeTxn_isOperation _ _
theorem rdRsvd17 : Statement .rdRsvd17 := readTxn_isOperation _
theorem wrRsvd17 (wdata : Word) : Statement (.wrRsvd17 wdata) := writeTxn_isOperation _ _
theorem rdTxdata : Statement .rdTxdata := readTxn_isOperation _
theorem wrTxdata (wdata : Word) : Statement (.wrTxdata wdata) := writeTxn_isOperation _ _
theorem rdRxdata : Statement .rdRxdata := readTxn_isOperation _
theorem wrRxdata (wdata : Word) : Statement (.wrRxdata wdata) := writeTxn_isOperation _ _
theorem rdTxmark : Statement .rdTxmark := readTxn_isOperation _
theorem wrTxmark (wdata : Word) : Statement (.wrTxmark wdata) := writeTxn_isOperation _ _
theorem rdRxmark : Statement .rdRxmark := readTxn_isOperation _
theorem wrRxmark (wdata : Word) : Statement (.wrRxmark wdata) := writeTxn_isOperation _ _
theorem rdRsvd22 : Statement .rdRsvd22 := readTxn_isOperation _
theorem wrRsvd22 (wdata : Word) : Statement (.wrRsvd22 wdata) := writeTxn_isOperation _ _
theorem rdRsvd23 : Statement .rdRsvd23 := readTxn_isOperation _
theorem wrRsvd23 (wdata : Word) : Statement (.wrRsvd23 wdata) := writeTxn_isOperation _ _
theorem rdFctrl : Statement .rdFctrl := readTxn_isOperation _
theorem wrFctrl (wdata : Word) : Statement (.wrFctrl wdata) := writeTxn_isOperation _ _
theorem rdFfmt : Statement .rdFfmt := readTxn_isOperation _
theorem wrFfmt (wdata : Word) : Statement (.wrFfmt wdata) := writeTxn_isOperation _ _
theorem rdRsvd26 : Statement .rdRsvd26 := readTxn_isOperation _
theorem wrRsvd26 (wdata : Word) : Statement (.wrRsvd26 wdata) := writeTxn_isOperation _ _
theorem rdRsvd27 : Statement .rdRsvd27 := readTxn_isOperation _
theorem wrRsvd27 (wdata : Word) : Statement (.wrRsvd27 wdata) := writeTxn_isOperation _ _
theorem rdIe : Statement .rdIe := readTxn_isOperation _
theorem wrIe (wdata : Word) : Statement (.wrIe wdata) := writeTxn_isOperation _ _
theorem rdIp : Statement .rdIp := readTxn_isOperation _
theorem wrIp (wdata : Word) : Statement (.wrIp wdata) := writeTxn_isOperation _ _
theorem rdOor (widx : WordIndex) : Statement (.rdOor widx) := readTxn_isOperation _
theorem wrOor (widx : WordIndex) (wdata : Word) : Statement (.wrOor widx wdata) := writeTxn_isOperation _ _
theorem reset : Statement .reset := rfl

end Sys2Proof.Laws.EncodesToOperation
end

