-- ==== Sys2Proof/Laws/Step.lean ====
section
/-! SUPPORT. What a step can do, said once: it idles, or it runs the operation of the next transaction. -/

namespace Sys2Proof.Machine

/-- The operation a transaction applies, where the model gives it one. -/
theorem State.operation_eq_ok {s : State} {t : Txn} {i : Instr} :
    s.operation t = .ok i ↔ decode t = .ok i ∧ (s.live = true ∨ i = .reset) := by
  unfold State.operation State.accepts
  cases h : decode t with
  | error e => simp
  | ok j =>
    by_cases ha : s.live || j == .reset
    · simp only [ha, if_true, Except.ok.injEq]
      constructor
      · rintro rfl; exact ⟨rfl, by simpa using ha⟩
      · exact fun h => h.1
    · simp only [ha]
      constructor
      · intro h; cases h
      · rintro ⟨h, hl⟩; cases h; exact absurd (by simpa using hl) ha

/-- A step with nothing pending answers the same state. -/
theorem step_of_empty {s : State} (h : s.pending = []) : step s = .next s := by
  simp [step, State.fetch, h]

/-- A step with a transaction pending runs its operation on the rest of the queue, or refuses it. -/
theorem step_of_cons {s : State} {t : Txn} {rest : List Txn} (h : s.pending = t :: rest) :
    step s = match State.operation { s with pending := rest } t with
      | .ok i => exec i { s with pending := rest }
      | .error r => .refused r := by
  have hf : s.fetch = some (t, { s with pending := rest }) := by simp [State.fetch, h]
  simp only [step, hf] <;> rfl

/-- What a step that answers a next state did. -/
theorem step_cases {s t : State} (h : step s = .next t) :
    (s.pending = [] ∧ t = s) ∨
    ∃ txn rest i, s.pending = txn :: rest ∧ decode txn = .ok i ∧ (s.live = true ∨ i = .reset) ∧
      exec i { s with pending := rest } = .next t := by
  cases hp : s.pending with
  | nil =>
    rw [step_of_empty hp] at h
    cases h; exact .inl ⟨rfl, rfl⟩
  | cons txn rest =>
    rw [step_of_cons hp] at h
    cases ho : State.operation { s with pending := rest } txn with
    | error r => rw [ho] at h; cases h
    | ok i =>
      rw [ho] at h
      have ho' := State.operation_eq_ok.mp ho
      exact .inr ⟨txn, rest, i, rfl, ho'.1, ho'.2, h⟩

/-- The transaction presented is the one the next step takes. -/
theorem State.fetch_present (s : State) (t : Txn) : (s.present t).fetch = some (t, s) := rfl

/-- A run of `k + 1` steps is one step and a run of `k`. -/
theorem run_succ {k : Nat} {s t : State} :
    Sys2Proof.core.run (k + 1) s = .next t ↔ ∃ u, step s = .next u ∧ Sys2Proof.core.run k u = .next t := by
  simp only [Host.Core.run, core]
  cases hs : step s with
  | fault f => cases f
  | refused r => simp
  | next u => simp

end Sys2Proof.Machine
end

