-- ==== Sys2Proof/Machine/Text.lean ====
section
/-! DEFINITION. The textual notation of operations (30_encoding.md R86; log 27), as a printer: `RD <name>`,
`WR <name>, <value>`, `RD @<offset>`, `WR @<offset>, <value>`, `RESET`. -/

namespace Sys2Proof.Machine

/-- The hexadecimal digit of `d`. -/
def hexDigit (d : Nat) : Char := Nat.digitChar (d % 16) |>.toUpper

/-- A 32-bit value written `0x` and eight hexadecimal digits (00_scope.md R7, R86). -/
def hex32 (v : Word) : String :=
  "0x" ++ String.ofList ([7, 6, 5, 4, 3, 2, 1, 0].map fun k => hexDigit (v.toNat / 16 ^ k))

/-- The text of a read of the register `name`. -/
def textRead (name : String) : String := "RD " ++ name

/-- The text of a write of the register `name`. -/
def textWrite (name : String) (v : Word) : String := "WR " ++ name ++ ", " ++ hex32 v

/-- The location `@<offset>` of a word index. -/
def textAt (widx : WordIndex) : String := "@" ++ hex32 (offsetOf widx)

/-- The text of an operation (R86). -/
def textOf : Instr → String
  | .rdSckdiv => textRead "SCKDIV"
  | .wrSckdiv wdata => textWrite "SCKDIV" wdata
  | .rdSckmode => textRead "SCKMODE"
  | .wrSckmode wdata => textWrite "SCKMODE" wdata
  | .rdRsvd02 => textRead "RSVD02"
  | .wrRsvd02 wdata => textWrite "RSVD02" wdata
  | .rdRsvd03 => textRead "RSVD03"
  | .wrRsvd03 wdata => textWrite "RSVD03" wdata
  | .rdCsid => textRead "CSID"
  | .wrCsid wdata => textWrite "CSID" wdata
  | .rdCsdef => textRead "CSDEF"
  | .wrCsdef wdata => textWrite "CSDEF" wdata
  | .rdCsmode => textRead "CSMODE"
  | .wrCsmode wdata => textWrite "CSMODE" wdata
  | .rdRsvd07 => textRead "RSVD07"
  | .wrRsvd07 wdata => textWrite "RSVD07" wdata
  | .rdRsvd08 => textRead "RSVD08"
  | .wrRsvd08 wdata => textWrite "RSVD08" wdata
  | .rdRsvd09 => textRead "RSVD09"
  | .wrRsvd09 wdata => textWrite "RSVD09" wdata
  | .rdDelay0 => textRead "DELAY0"
  | .wrDelay0 wdata => textWrite "DELAY0" wdata
  | .rdDelay1 => textRead "DELAY1"
  | .wrDelay1 wdata => textWrite "DELAY1" wdata
  | .rdRsvd12 => textRead "RSVD12"
  | .wrRsvd12 wdata => textWrite "RSVD12" wdata
  | .rdRsvd13 => textRead "RSVD13"
  | .wrRsvd13 wdata => textWrite "RSVD13" wdata
  | .rdRsvd14 => textRead "RSVD14"
  | .wrRsvd14 wdata => textWrite "RSVD14" wdata
  | .rdRsvd15 => textRead "RSVD15"
  | .wrRsvd15 wdata => textWrite "RSVD15" wdata
  | .rdFmt => textRead "FMT"
  | .wrFmt wdata => textWrite "FMT" wdata
  | .rdRsvd17 => textRead "RSVD17"
  | .wrRsvd17 wdata => textWrite "RSVD17" wdata
  | .rdTxdata => textRead "TXDATA"
  | .wrTxdata wdata => textWrite "TXDATA" wdata
  | .rdRxdata => textRead "RXDATA"
  | .wrRxdata wdata => textWrite "RXDATA" wdata
  | .rdTxmark => textRead "TXMARK"
  | .wrTxmark wdata => textWrite "TXMARK" wdata
  | .rdRxmark => textRead "RXMARK"
  | .wrRxmark wdata => textWrite "RXMARK" wdata
  | .rdRsvd22 => textRead "RSVD22"
  | .wrRsvd22 wdata => textWrite "RSVD22" wdata
  | .rdRsvd23 => textRead "RSVD23"
  | .wrRsvd23 wdata => textWrite "RSVD23" wdata
  | .rdFctrl => textRead "FCTRL"
  | .wrFctrl wdata => textWrite "FCTRL" wdata
  | .rdFfmt => textRead "FFMT"
  | .wrFfmt wdata => textWrite "FFMT" wdata
  | .rdRsvd26 => textRead "RSVD26"
  | .wrRsvd26 wdata => textWrite "RSVD26" wdata
  | .rdRsvd27 => textRead "RSVD27"
  | .wrRsvd27 wdata => textWrite "RSVD27" wdata
  | .rdIe => textRead "IE"
  | .wrIe wdata => textWrite "IE" wdata
  | .rdIp => textRead "IP"
  | .wrIp wdata => textWrite "IP" wdata
  | .rdOor widx => textRead (textAt widx)
  | .wrOor widx wdata => textWrite (textAt widx) wdata
  | .reset => "RESET"

end Sys2Proof.Machine
end

