-- ==== Sys2Proof/Tests/Slice0.lean ====
section
/-! SUPPORT. Tests. Expected results come from spec/95_test_vectors.md (the vector's id stands in the comment) or from
the rule named; decodings come from the words of 30_encoding.md R83. The theorems test_witness_<Name> each show a
concrete state and operands that meet the hypotheses of Obligations.<Name>. -/

namespace Sys2Proof.Tests

open Sys2Proof Sys2Proof.Machine

/-- The state an operation leaves. -/
def after (i : Instr) (s : State) : Option State :=
  match exec i s with
  | .next t => some t
  | _ => none

/-- The value an operation returns. -/
def returned (i : Instr) (s : State) : Option Word := (after i s).bind State.rdata

/-- The events an operation emits. -/
def emitted (i : Instr) (s : State) : Option (List Event) :=
  (after i s).map fun t => t.trace.drop s.trace.length

/-- The name of the refusal a step answers. -/
def refusal (s : State) : Option Refusal :=
  match step s with
  | .refused r => some r
  | _ => none

/-- `S0` of 95_test_vectors.md section 0 with `x[w] = v` placed. -/
def with1 (w : Slot) (v : Word) : State := State.reset.setReg w v

/-- `S0` with IP = `p`, IE = `e` and the `irq` level they give (R160). -/
def withIrq (p e : Word) : State := { (with1 29 p).setReg 28 e with irq := decide (p &&& e ≠ 0) }

/-- `S0` with the collaborator set to answer `rx`. -/
def answering (rx : Byte) (s : State) : State := { s with answers := [rx] }

/-- `S0` with `n + 1` chip-select lines. -/
def lines (n : Fin 32) : State := State.resetWith { Params.default with lastCs := n }

/-- `S0` with `RXDATA_RD_SETS_RXWM` true. -/
def rxSets : State := State.resetWith { Params.default with rxdataRdSetsRxwm := true }

/-- A state before the first RESET (R222). -/
def beforeReset : State := { State.reset with live := false }

/-- `s` with the transactions `ts` to come. -/
def queued (ts : List Txn) (s : State) : State := { s with pending := ts }

/-! ### Well-formedness -/

/-- R130, R83: word index 29 is in range, so RD.OOR of it is ill formed; 30 is the first index out of range (D3). -/
theorem test_wellFormed_rdOor : (Instr.rdOor 29).wellFormed = false ∧ (Instr.rdOor 30).wellFormed = true := by decide

/-- R131, R83: the same of WR.OOR, and the last index. -/
theorem test_wellFormed_wrOor :
    (Instr.wrOor 29 1).wellFormed = false ∧ (Instr.wrOor 0x3FFFFFFF 1).wellFormed = true := by decide

/-! ### Decoding -/

/-- R83, the transactions of the family. -/
theorem test_decode_named_stored_only :
    decode (.read 0x00 4) = .ok .rdSckdiv ∧ decode (.write 0x00 4 0xCAFE0000) = .ok (.wrSckdiv 0xCAFE0000) ∧
    decode (.read 0x04 4) = .ok .rdSckmode ∧ decode (.write 0x04 4 0xCAFE0000) = .ok (.wrSckmode 0xCAFE0000) ∧
    decode (.read 0x28 4) = .ok .rdDelay0 ∧ decode (.write 0x28 4 0xCAFE0000) = .ok (.wrDelay0 0xCAFE0000) ∧
    decode (.read 0x2C 4) = .ok .rdDelay1 ∧ decode (.write 0x2C 4 0xCAFE0000) = .ok (.wrDelay1 0xCAFE0000) ∧
    decode (.read 0x40 4) = .ok .rdFmt ∧ decode (.write 0x40 4 0xCAFE0000) = .ok (.wrFmt 0xCAFE0000) ∧
    decode (.read 0x60 4) = .ok .rdFctrl ∧ decode (.write 0x60 4 0xCAFE0000) = .ok (.wrFctrl 0xCAFE0000) ∧
    decode (.read 0x64 4) = .ok .rdFfmt ∧ decode (.write 0x64 4 0xCAFE0000) = .ok (.wrFfmt 0xCAFE0000) :=
  ⟨rfl, rfl, rfl, rfl, rfl, rfl, rfl, rfl, rfl, rfl, rfl, rfl, rfl, rfl⟩

/-- R83, the keys of the family as words of the opcode table. -/
theorem test_words_named_stored_only :
    decodeTableWord 32 0x00000000 = some .rdSckdiv ∧ decodeTableWord 32 0x40000000 = some (.wrSckdiv 0) ∧
    decodeTableWord 32 0x00000001 = some .rdSckmode ∧ decodeTableWord 32 0x40000001 = some (.wrSckmode 0) ∧
    decodeTableWord 32 0x0000000A = some .rdDelay0 ∧ decodeTableWord 32 0x4000000A = some (.wrDelay0 0) ∧
    decodeTableWord 32 0x0000000B = some .rdDelay1 ∧ decodeTableWord 32 0x4000000B = some (.wrDelay1 0) ∧
    decodeTableWord 32 0x00000010 = some .rdFmt ∧ decodeTableWord 32 0x40000010 = some (.wrFmt 0) ∧
    decodeTableWord 32 0x00000018 = some .rdFctrl ∧ decodeTableWord 32 0x40000018 = some (.wrFctrl 0) ∧
    decodeTableWord 32 0x00000019 = some .rdFfmt ∧ decodeTableWord 32 0x40000019 = some (.wrFfmt 0) :=
  ⟨rfl, rfl, rfl, rfl, rfl, rfl, rfl, rfl, rfl, rfl, rfl, rfl, rfl, rfl⟩

/-- R83, the transactions of the family. -/
theorem test_decode_unnamed_1 :
    decode (.read 0x08 4) = .ok .rdRsvd02 ∧ decode (.write 0x08 4 0xCAFE0000) = .ok (.wrRsvd02 0xCAFE0000) ∧
    decode (.read 0x0C 4) = .ok .rdRsvd03 ∧ decode (.write 0x0C 4 0xCAFE0000) = .ok (.wrRsvd03 0xCAFE0000) ∧
    decode (.read 0x1C 4) = .ok .rdRsvd07 ∧ decode (.write 0x1C 4 0xCAFE0000) = .ok (.wrRsvd07 0xCAFE0000) ∧
    decode (.read 0x20 4) = .ok .rdRsvd08 ∧ decode (.write 0x20 4 0xCAFE0000) = .ok (.wrRsvd08 0xCAFE0000) ∧
    decode (.read 0x24 4) = .ok .rdRsvd09 ∧ decode (.write 0x24 4 0xCAFE0000) = .ok (.wrRsvd09 0xCAFE0000) ∧
    decode (.read 0x30 4) = .ok .rdRsvd12 ∧ decode (.write 0x30 4 0xCAFE0000) = .ok (.wrRsvd12 0xCAFE0000) ∧
    decode (.read 0x34 4) = .ok .rdRsvd13 ∧ decode (.write 0x34 4 0xCAFE0000) = .ok (.wrRsvd13 0xCAFE0000) :=
  ⟨rfl, rfl, rfl, rfl, rfl, rfl, rfl, rfl, rfl, rfl, rfl, rfl, rfl, rfl⟩

/-- R83, the keys of the family as words of the opcode table. -/
theorem test_words_unnamed_1 :
    decodeTableWord 32 0x00000002 = some .rdRsvd02 ∧ decodeTableWord 32 0x40000002 = some (.wrRsvd02 0) ∧
    decodeTableWord 32 0x00000003 = some .rdRsvd03 ∧ decodeTableWord 32 0x40000003 = some (.wrRsvd03 0) ∧
    decodeTableWord 32 0x00000007 = some .rdRsvd07 ∧ decodeTableWord 32 0x40000007 = some (.wrRsvd07 0) ∧
    decodeTableWord 32 0x00000008 = some .rdRsvd08 ∧ decodeTableWord 32 0x40000008 = some (.wrRsvd08 0) ∧
    decodeTableWord 32 0x00000009 = some .rdRsvd09 ∧ decodeTableWord 32 0x40000009 = some (.wrRsvd09 0) ∧
    decodeTableWord 32 0x0000000C = some .rdRsvd12 ∧ decodeTableWord 32 0x4000000C = some (.wrRsvd12 0) ∧
    decodeTableWord 32 0x0000000D = some .rdRsvd13 ∧ decodeTableWord 32 0x4000000D = some (.wrRsvd13 0) :=
  ⟨rfl, rfl, rfl, rfl, rfl, rfl, rfl, rfl, rfl, rfl, rfl, rfl, rfl, rfl⟩

/-- R83, the transactions of the family. -/
theorem test_decode_unnamed_2 :
    decode (.read 0x38 4) = .ok .rdRsvd14 ∧ decode (.write 0x38 4 0xCAFE0000) = .ok (.wrRsvd14 0xCAFE0000) ∧
    decode (.read 0x3C 4) = .ok .rdRsvd15 ∧ decode (.write 0x3C 4 0xCAFE0000) = .ok (.wrRsvd15 0xCAFE0000) ∧
    decode (.read 0x44 4) = .ok .rdRsvd17 ∧ decode (.write 0x44 4 0xCAFE0000) = .ok (.wrRsvd17 0xCAFE0000) ∧
    decode (.read 0x58 4) = .ok .rdRsvd22 ∧ decode (.write 0x58 4 0xCAFE0000) = .ok (.wrRsvd22 0xCAFE0000) ∧
    decode (.read 0x5C 4) = .ok .rdRsvd23 ∧ decode (.write 0x5C 4 0xCAFE0000) = .ok (.wrRsvd23 0xCAFE0000) ∧
    decode (.read 0x68 4) = .ok .rdRsvd26 ∧ decode (.write 0x68 4 0xCAFE0000) = .ok (.wrRsvd26 0xCAFE0000) ∧
    decode (.read 0x6C 4) = .ok .rdRsvd27 ∧ decode (.write 0x6C 4 0xCAFE0000) = .ok (.wrRsvd27 0xCAFE0000) :=
  ⟨rfl, rfl, rfl, rfl, rfl, rfl, rfl, rfl, rfl, rfl, rfl, rfl, rfl, rfl⟩

/-- R83, the keys of the family as words of the opcode table. -/
theorem test_words_unnamed_2 :
    decodeTableWord 32 0x0000000E = some .rdRsvd14 ∧ decodeTableWord 32 0x4000000E = some (.wrRsvd14 0) ∧
    decodeTableWord 32 0x0000000F = some .rdRsvd15 ∧ decodeTableWord 32 0x4000000F = some (.wrRsvd15 0) ∧
    decodeTableWord 32 0x00000011 = some .rdRsvd17 ∧ decodeTableWord 32 0x40000011 = some (.wrRsvd17 0) ∧
    decodeTableWord 32 0x00000016 = some .rdRsvd22 ∧ decodeTableWord 32 0x40000016 = some (.wrRsvd22 0) ∧
    decodeTableWord 32 0x00000017 = some .rdRsvd23 ∧ decodeTableWord 32 0x40000017 = some (.wrRsvd23 0) ∧
    decodeTableWord 32 0x0000001A = some .rdRsvd26 ∧ decodeTableWord 32 0x4000001A = some (.wrRsvd26 0) ∧
    decodeTableWord 32 0x0000001B = some .rdRsvd27 ∧ decodeTableWord 32 0x4000001B = some (.wrRsvd27 0) :=
  ⟨rfl, rfl, rfl, rfl, rfl, rfl, rfl, rfl, rfl, rfl, rfl, rfl, rfl, rfl⟩

/-- R83, the transactions of the family. -/
theorem test_decode_transfer_engine :
    decode (.read 0x48 4) = .ok .rdTxdata ∧ decode (.write 0x48 4 0xCAFE0000) = .ok (.wrTxdata 0xCAFE0000) ∧
    decode (.read 0x4C 4) = .ok .rdRxdata ∧ decode (.write 0x4C 4 0xCAFE0000) = .ok (.wrRxdata 0xCAFE0000) ∧
    decode (.read 0x50 4) = .ok .rdTxmark ∧ decode (.write 0x50 4 0xCAFE0000) = .ok (.wrTxmark 0xCAFE0000) ∧
    decode (.read 0x54 4) = .ok .rdRxmark ∧ decode (.write 0x54 4 0xCAFE0000) = .ok (.wrRxmark 0xCAFE0000) :=
  ⟨rfl, rfl, rfl, rfl, rfl, rfl, rfl, rfl⟩

/-- R83, the keys of the family as words of the opcode table. -/
theorem test_words_transfer_engine :
    decodeTableWord 32 0x00000012 = some .rdTxdata ∧ decodeTableWord 32 0x40000012 = some (.wrTxdata 0) ∧
    decodeTableWord 32 0x00000013 = some .rdRxdata ∧ decodeTableWord 32 0x40000013 = some (.wrRxdata 0) ∧
    decodeTableWord 32 0x00000014 = some .rdTxmark ∧ decodeTableWord 32 0x40000014 = some (.wrTxmark 0) ∧
    decodeTableWord 32 0x00000015 = some .rdRxmark ∧ decodeTableWord 32 0x40000015 = some (.wrRxmark 0) :=
  ⟨rfl, rfl, rfl, rfl, rfl, rfl, rfl, rfl⟩

/-- R83, the transactions of the family. -/
theorem test_decode_interrupt_logic :
    decode (.read 0x70 4) = .ok .rdIe ∧ decode (.write 0x70 4 0xCAFE0000) = .ok (.wrIe 0xCAFE0000) ∧
    decode (.read 0x74 4) = .ok .rdIp ∧ decode (.write 0x74 4 0xCAFE0000) = .ok (.wrIp 0xCAFE0000) :=
  ⟨rfl, rfl, rfl, rfl⟩

/-- R83, the keys of the family as words of the opcode table. -/
theorem test_words_interrupt_logic :
    decodeTableWord 32 0x0000001C = some .rdIe ∧ decodeTableWord 32 0x4000001C = some (.wrIe 0) ∧
    decodeTableWord 32 0x0000001D = some .rdIp ∧ decodeTableWord 32 0x4000001D = some (.wrIp 0) :=
  ⟨rfl, rfl, rfl, rfl⟩

/-- R83, the transactions of the family. -/
theorem test_decode_chip_select :
    decode (.read 0x10 4) = .ok .rdCsid ∧ decode (.write 0x10 4 0xCAFE0000) = .ok (.wrCsid 0xCAFE0000) ∧
    decode (.read 0x14 4) = .ok .rdCsdef ∧ decode (.write 0x14 4 0xCAFE0000) = .ok (.wrCsdef 0xCAFE0000) ∧
    decode (.read 0x18 4) = .ok .rdCsmode ∧ decode (.write 0x18 4 0xCAFE0000) = .ok (.wrCsmode 0xCAFE0000) :=
  ⟨rfl, rfl, rfl, rfl, rfl, rfl⟩

/-- R83, the keys of the family as words of the opcode table. -/
theorem test_words_chip_select :
    decodeTableWord 32 0x00000004 = some .rdCsid ∧ decodeTableWord 32 0x40000004 = some (.wrCsid 0) ∧
    decodeTableWord 32 0x00000005 = some .rdCsdef ∧ decodeTableWord 32 0x40000005 = some (.wrCsdef 0) ∧
    decodeTableWord 32 0x00000006 = some .rdCsmode ∧ decodeTableWord 32 0x40000006 = some (.wrCsmode 0) :=
  ⟨rfl, rfl, rfl, rfl, rfl, rfl⟩

/-- T-RB14, T-RB15, T-RB16: the first and last out-of-range offsets, and a high offset that aliases no slot. -/
theorem test_decode_out_of_range :
    decode (.read 0x78 4) = .ok (.rdOor 0x1E) ∧ decode (.read 0xFFFFFFFC 4) = .ok (.rdOor 0x3FFFFFFF) ∧
    decode (.write 0x78 4 0xDEADBEEF) = .ok (.wrOor 0x1E 0xDEADBEEF) ∧
    decode (.write 0x80000048 4 0x5A) = .ok (.wrOor 0x20000012 0x5A) := ⟨rfl, rfl, rfl, rfl⟩

/-- S7, T-RB16: keys 0x1F and 0x60000012; the write data are the next word; the event `rst` has no bits; bit 31
belongs to no key (log 8). -/
theorem test_words_out_of_range_and_reset :
    decodeTableWord 32 0x0000001F = some (.rdOor 0x1F) ∧ decodeTableWord 32 0x60000012 = some (.wrOor 0x20000012 0) ∧
    decodeTableWord 64 0x000000FF_4000001F = some (.wrOor 0x1F 0xFF) ∧
    decodeTableWord 64 0x000000A7_40000012 = some (.wrTxdata 0xA7) ∧
    decodeTableWord 0 0 = some .reset ∧ decode .rst = .ok .reset ∧ decodeTableWord 32 0x80000000 = none :=
  ⟨rfl, rfl, rfl, rfl, rfl, rfl, rfl⟩

/-- T-IF1 to T-IF6: transactions that are no operation. -/
theorem test_decode_ill_formed :
    decode (.write 0x48 1 0x5A) = .error .badSize ∧ decode (.read 0x4C 2) = .error .badSize ∧
    decode (.write 0x4A 4 0) = .error .misaligned ∧ decode (.read 0x75 1) = .error .badSize ∧
    decode (.write 0x70 8 0) = .error .badSize ∧ decode (.read 0x7A 4) = .error .misaligned :=
  ⟨rfl, rfl, rfl, rfl, rfl, rfl⟩

/-- S1: key 0x40000012 and the first match of R81. -/
theorem test_key :
    (Txn.write 0x48 4 0xA7).key = some 0x40000012 ∧ (Txn.read 0x74 4).key = some 0x0000001D ∧
    (Txn.read 0x75 4).key = none ∧ tableLookup 0x4000041D 0 = some (.wrOor 0x41D 0) := by decide

/-- R86. -/
theorem test_text :
    textOf (.wrTxdata 0x9F) = "WR TXDATA, 0x0000009F" ∧ textOf (.rdOor 0x1F) = "RD @0x0000007C" := by decide

/-! ### Register bank -/

/-- T-RB1, T-RB3: a stored-only register keeps all 32 bits. -/
theorem test_stored_only_round_trip :
    ((after (.wrSckdiv 0xFFFFFFFF) State.reset).bind (returned .rdSckdiv)) = some 0xFFFFFFFF ∧
    ((after (.wrDelay0 0x12345678) State.reset).bind (returned .rdDelay0)) = some 0x12345678 := by decide

/-- T-RB12, two of its slots: distinct slots. -/
theorem test_unnamed_slots_are_distinct :
    (after (.wrRsvd02 0xFFFFFFF7) State.reset).bind (returned .rdRsvd03) = some 0 ∧
    (after (.wrRsvd27 0xFFFFFF93) State.reset).bind (returned .rdRsvd27) = some 0xFFFFFF93 := by decide

/-- T-RB13: a write changes one slot only. -/
theorem test_write_changes_one_slot :
    (after (.wrSckdiv 1) State.reset).map (fun t => (t.reg 1, t.reg 2, t.reg 28)) = some (0, 0, 0) := by decide

/-- S7: an out-of-range write changes nothing and an out-of-range read returns 0. -/
theorem test_out_of_range :
    after (.wrOor 0x1F 0xFF) State.reset = some State.reset ∧ returned (.rdOor 0x1F) State.reset = some 0 := by decide

/-! ### Transfer engine -/

/-- S6d, S1: the stored byte, the answer, the pending bit, the line and the order of the events. -/
theorem test_wrTxdata :
    (after (.wrTxdata 0x5A) (answering 0x5A (withIrq 0 1))).map (fun t => (t.reg 18, t.reg 19, t.reg 29, t.irq, t.trace)) =
      some (0x5A, 0x5A, 1, true, [.exch 0x5A 0x5A, .irq true]) := by decide

/-- T-TE1: only the low byte is sent and stored. -/
theorem test_wrTxdata_low_byte :
    (after (.wrTxdata 0x1234) (answering 0xFF State.reset)).map (fun t => (t.reg 18, t.reg 19, t.trace, t.answers)) =
      some (0x34, 0xFF, [.exch 0x34 0xFF], []) := by decide

/-- T-TE11, T-TE12: RD.RXDATA under both settings of its parameter. -/
theorem test_rdRxdata :
    (after .rdRxdata ((rxSets.setReg 29 0).setReg 28 2)).map (fun t => (t.rdata, t.reg 29, t.irq, t.trace)) =
      some (some 0, 2, true, [.irq true]) ∧
    (after .rdRxdata (withIrq 0 2)).map (fun t => (t.rdata, t.reg 29, t.irq, t.trace)) =
      some (some 0, 0, false, []) := by decide

/-- T-TE6: a write of RXDATA stores, exchanges nothing and sets no pending bit. -/
theorem test_wrRxdata :
    (after (.wrRxdata 0xDEADBEEF) (with1 29 0)).map (fun t => (t.reg 19, t.reg 29, t.trace)) =
      some (0xDEADBEEF, 0, []) := by decide

/-- T-TE7, T-RB8: TXMARK is stored whole and moves no pending bit. -/
theorem test_wrTxmark :
    (after (.wrTxmark 0xFFFFFFF8) (with1 29 0)).map (fun t => (t.reg 20, t.reg 29)) = some (0xFFFFFFF8, 0) := by decide

/-! ### Interrupt logic -/

/-- T-IL2, T-IL3: a poll returns the new value, sets RXWM and raises the line. -/
theorem test_rdIp :
    (after .rdIp (withIrq 0 2)).map (fun t => (t.rdata, t.reg 29, t.irq, t.trace)) =
      some (some 2, 2, true, [.irq true]) := by decide

/-- T-IL2 under the other setting of IP_RD_RETURNS_UPDATED. -/
theorem test_rdIp_old_value :
    (after .rdIp ((State.resetWith { Params.default with ipRdReturnsUpdated := false }).setReg 29 0)).map
      (fun t => (t.rdata, t.reg 29)) = some (some 0, 2) := by decide

/-- S3, steps 4 and 6: no event where the level stays, one where it changes. -/
theorem test_wrIe :
    emitted (.wrIe 1) (withIrq 1 1) = some [] ∧ emitted (.wrIe 2) (withIrq 1 3) = some [.irq false] := by decide

/-- T-IL5, T-IL6: all 32 bits of IE and IP count. -/
theorem test_wrIe_all_bits :
    emitted (.wrIe 0x80000000) (withIrq 0x80000000 0) = some [.irq true] ∧
    emitted (.wrIe 0xFFFFFFFC) State.reset = some [] := by decide

/-- T-IL7, T-IL11: a write of IP replaces it and re-evaluates the line. -/
theorem test_wrIp :
    (after (.wrIp 2) (withIrq 3 1)).map (fun t => (t.reg 29, t.irq, t.trace)) =
      some (2, false, [.irq false]) := by decide

/-! ### Chip select -/

/-- S4, steps 3 and 5, with NUM_CS = 4: line order of the events, and the levels. -/
theorem test_wrCsid :
    (after (.wrCsid 2) { (lines 3).setReg 5 0xF with cs := [false, true, true, true] }).map (fun t => (t.cs, t.trace)) =
      some ([true, true, false, true], [.cs 0 true, .cs 2 false]) := by decide

/-- T-CS5, T-CS14: a CSID that names no line selects none; there is no reduction modulo anything. -/
theorem test_wrCsid_no_line :
    (after (.wrCsid 0x100) State.reset).map (fun t => (t.cs, t.reg 4)) = some ([true], 0x100) ∧
    emitted (.wrCsid 32) (lines 31) = some [.cs 0 true] := by decide

/-- S4, step 2, and T-CS7: a write of CSDEF moves the lines; the bits above the lines are stored. -/
theorem test_wrCsdef :
    emitted (.wrCsdef 0xF) (lines 3) = some [.cs 1 true, .cs 2 true, .cs 3 true] ∧
    (after (.wrCsdef 0xFFFFFFFE) State.reset).map (fun t => (t.cs, t.reg 5)) = some ([true], 0xFFFFFFFE) := by decide

/-- T-CS4, T-RB10: CSMODE moves no line. -/
theorem test_wrCsmode :
    (after (.wrCsmode 0xC0000003) State.reset).map (fun t => (t.cs, t.trace, t.reg 6)) =
      some ([false], [], 0xC0000003) := by decide

/-! ### Reset and the step -/

/-- T-RS1: the second RESET drops both outputs, `irq` first, and keeps no slot. -/
theorem test_reset :
    (after .reset { (withIrq 0xF1 1).setReg 4 1 with cs := [true] }).map
      (fun t => (t.bank == State.reset.bank, t.irq, t.cs, t.trace)) =
      some (true, false, [false], [.irq false, .cs 0 false]) := by decide

/-- T-RS2: RESET in the reset state emits nothing and leaves it as it is. -/
theorem test_reset_twice : after .reset State.reset = some State.reset := by decide

/-- T-RS4 and T-IF1 to T-IF6, as steps: an operation before the first RESET, and transactions that are none. -/
theorem test_step_refusals :
    refusal (queued [readTxn 29] beforeReset) = some .beforeFirstReset ∧
    refusal (queued [.write 0x48 1 0x5A] State.reset) = some .badSize ∧
    refusal (queued [.read 0x7A 4] State.reset) = some .misaligned := by decide

/-- The word of RD.IP (R83) presented to the reset state runs RD.IP and leaves the queue empty; the word of no bits
runs RESET. -/
theorem test_withFetchWord :
    step (State.reset.withFetchWord 32 0x0000001D) = exec .rdIp State.reset ∧
    step (State.reset.withFetchWord 0 0) = exec .reset State.reset := ⟨rfl, rfl⟩

/-! ### Witnesses: every statement with hypotheses has a state and operands that meet them -/

theorem test_witness_DecodeInvertsEncode :
    (Instr.rdOor 30).wellFormed = true ∧ (Instr.wrOor 0x3FFFFFFF 1).wellFormed = true ∧
    Instr.rdIp.wellFormed = true ∧ Instr.reset.wellFormed = true := by decide

theorem test_witness_EncodeInvertsDecode :
    decode (.read 0x74 4) = .ok .rdIp ∧ decode (.read 0x78 4) = .ok (.rdOor 30) ∧ decode .rst = .ok .reset :=
  ⟨rfl, rfl, rfl⟩

/-- One offset for each clause: a bad size, a misaligned offset (in range, and the last of all), an aligned one. -/
theorem test_witness_DecodeRefusesExactlyIllFormed :
    (1 ≠ 4 ∧ 0 ≠ 4) ∧ ((0x75 : Word).toNat % 4 ≠ 0 ∧ (0xFFFFFFFF : Word).toNat % 4 ≠ 0) ∧
    ((0x74 : Word).toNat % 4 = 0 ∧ (0xFFFFFFFC : Word).toNat % 4 = 0) := by decide

/-- The last offset in range, the first and the last out of range. -/
theorem test_witness_OutOfRangeFromOffset78 :
    ((0x74 : Word).toNat % 4 = 0 ∧ (0x74 : Word).toNat < 120) ∧ ((0x78 : Word).toNat % 4 = 0 ∧ 120 ≤ (0x78 : Word).toNat) ∧
    (0xFFFFFFFC : Word).toNat % 4 = 0 ∧ 120 ≤ (0xFFFFFFFC : Word).toNat := by decide

theorem test_witness_TableFirstMatchIsDecode :
    (Txn.read 0x74 4).key = some 0x1D ∧ (Txn.write 0x78 4 1).key = some 0x4000001E := by decide

/-- Once after a RESET, once as the first RESET. -/
theorem test_witness_StepRunsDecodedOperation :
    ((queued [readTxn 29] State.reset).pending = readTxn 29 :: [] ∧ decode (readTxn 29) = .ok .rdIp ∧
      (queued [readTxn 29] State.reset).live = true) ∧
    (queued [.rst] beforeReset).pending = .rst :: [] ∧ decode .rst = .ok .reset ∧
      (queued [.rst] beforeReset).live = false := ⟨⟨rfl, rfl, rfl⟩, rfl, rfl, rfl⟩

theorem test_witness_StepRefusesIllFormedTransaction :
    ((queued [.write 0x48 1 0x5A] State.reset).pending = [.write 0x48 1 0x5A] ∧ 1 ≠ 4) ∧
    (queued [.read 0x7A 4] State.reset).pending = [.read 0x7A 4] ∧ (0x7A : Word).toNat % 4 ≠ 0 := by decide

theorem test_witness_OnlyResetBeforeFirstReset :
    beforeReset.live = false ∧ (queued [readTxn 29] beforeReset).pending = readTxn 29 :: [] ∧
    decode (readTxn 29) = .ok .rdIp ∧ Instr.rdIp ≠ .reset := ⟨rfl, rfl, rfl, by decide⟩

theorem test_witness_StepIdlesWithoutTransaction : State.reset.pending = [] := by decide

/-- Slot 0 is outside the four slots, and a run of one step completes. -/
theorem test_witness_UnreadSlotsNeverReachAnOutput :
    (0 : Slot) ∉ ([4, 5, 28, 29] : List Slot) ∧
    ∃ t, Sys2Proof.core.run 1 (queued [writeTxn 18 0x5A] State.reset) = .next t := ⟨by decide, _, rfl⟩

/-- The collaborator with an answer set, and with none; a slot that is none of the three. -/
theorem test_witness_WriteTxdataTransfers :
    (answering 0x3C State.reset).answers = 0x3C :: [] ∧ State.reset.answers = [] ∧
    ((0 : Slot) ≠ 18 ∧ (0 : Slot) ≠ 19 ∧ (0 : Slot) ≠ 29) := by decide

theorem test_witness_ReceivedByteIsTheAnswer : (answering 0x3C State.reset).answers = 0x3C :: [] := by decide

theorem test_witness_ReadTxdataReturnsByteWritten : State.reset.live = true ∧ State.reset.Inv := by decide

theorem test_witness_ReadRxdataReturnsByteReceived :
    State.reset.params.rxdataRdSetsRxwm = false ∧ rxSets.params.rxdataRdSetsRxwm = true := by decide

/-- A run of two steps with an exchange in the middle of the queue. -/
theorem test_witness_OneExchangePerTxdataWrite :
    ∃ t, Sys2Proof.core.run 2 (queued [readTxn 0, writeTxn 18 0x5A, readTxn 29] State.reset) = .next t := ⟨_, rfl⟩

/-- With the interrupt output low, and high. -/
theorem test_witness_TransfersAndPollsOnlyRaiseIrq :
    (State.reset.live = true ∧ State.reset.Inv) ∧ (withIrq 1 3).live = true ∧ (withIrq 1 3).Inv := by decide

/-- Bit 0 cleared by a write of IP; bit 4 cleared by RESET. -/
theorem test_witness_PendingBitsAreSticky :
    ((State.reset.reg 29).getLsbD 0 = true ∧
      (after (.wrIp 2) State.reset).map (fun t => (t.reg 29).getLsbD 0) = some false) ∧
    ((with1 29 0xF1).reg 29).getLsbD 4 = true ∧
      (after .reset (with1 29 0xF1)).map (fun t => (t.reg 29).getLsbD 4) = some false := by decide

/-- IP changes under each of its five operations, IE under its two. -/
theorem test_witness_OnlyInterruptOperationsChangeIpOrIe :
    ((after (.wrTxdata 0) (answering 0 (with1 29 0))).map (fun t => t.reg 29) = some 1) ∧
    ((after .rdIp (with1 29 0)).map (fun t => t.reg 29) = some 2) ∧
    ((after (.wrIp 0) State.reset).map (fun t => t.reg 29) = some 0) ∧
    ((after .reset (with1 29 0)).map (fun t => t.reg 29) = some 3) ∧
    ((after .rdRxdata (rxSets.setReg 29 0)).map (fun t => t.reg 29) = some 2) ∧
    ((after (.wrIe 1) State.reset).map (fun t => t.reg 28) = some 1) ∧
    ((after .reset (with1 28 1)).map (fun t => t.reg 28) = some 0) := by decide

/-- Each event of R201, on a state with IE = 0. -/
theorem test_witness_PendingIsIndependentOfEnable :
    (State.reset.reg 28 = 0 ∧ rxSets.reg 28 = 0) ∧ State.reset.makesPending (.wrTxdata 7) 0 ∧
    State.reset.makesPending .rdIp 1 ∧ rxSets.makesPending .rdRxdata 1 ∧ State.reset.makesPending (.wrIp 2) 1 ∧
    State.reset.makesPending .reset 0 :=
  ⟨by decide, .inl ⟨⟨7, rfl⟩, rfl⟩, .inr (.inl ⟨rfl, rfl⟩), .inr (.inr (.inl ⟨rfl, rfl, rfl⟩)),
    .inr (.inr (.inr (.inl ⟨⟨2, rfl, rfl⟩, by decide⟩))), .inr (.inr (.inr (.inr ⟨rfl, by decide⟩)))⟩

theorem test_witness_WriteCsmodeMovesNoLine : (lines 31).live = true ∧ (lines 31).Inv := by decide

/-- Lines 0 and 31 are below NUM_CS = 32, and a CSID of 32 names none of them. -/
theorem test_witness_SelectAssertsExactlyOneLine :
    (0 < (lines 31).numCs ∧ 31 < (lines 31).numCs ∧ (0 : Word).toNat ≠ 31) ∧ (lines 31).numCs ≤ (32 : Word).toNat := by
  decide

theorem test_witness_AtMostOneLineSelected :
    State.reset.live = true ∧ State.reset.Inv ∧ State.reset.selected 0 := by decide

/-- `irq` changes under interrupt operations, RD.RXDATA with its parameter true among them, `cs` under a chip-select
operation, both under RESET. -/
theorem test_witness_OutputsMoveOnlyUnderTheirOperations :
    (after .rdRxdata ((rxSets.setReg 29 0).setReg 28 2)).map State.irq = some true ∧
    ((after (.wrIe 1) State.reset).map State.irq = some true ∧ State.reset.irq = false) ∧
    ((after (.wrCsid 1) State.reset).map State.cs = some [true] ∧ State.reset.cs = [false]) ∧
    (after .reset { withIrq 1 1 with cs := [true] }).map (fun t => (t.irq, t.cs)) = some (false, [false]) := by decide

/-- A state that meets the invariants steps, and so does one before the first RESET that meets none of them. -/
theorem test_witness_StepKeepsInvariants :
    ((queued [writeTxn 28 1] State.reset).Inv ∧ ∃ t, step (queued [writeTxn 28 1] State.reset) = .next t) ∧
    (queued [.rst] { beforeReset with irq := true }).Inv ∧ ∃ t, step (queued [.rst] { beforeReset with irq := true }) = .next t :=
  ⟨⟨by decide, _, rfl⟩, by decide, _, rfl⟩

/-- A state with `irq` high and an event that says so, about to lower it. -/
theorem test_witness_EventsReplayToOutputs :
    (queued [writeTxn 28 0] { withIrq 3 1 with trace := [.irq true] }).Observed ∧
    ∃ t, step (queued [writeTxn 28 0] { withIrq 3 1 with trace := [.irq true] }) = .next t := ⟨by decide, _, rfl⟩

theorem test_witness_OperationsAppendGenuineChanges :
    (lines 3).cs.length = (lines 3).numCs ∧ ∃ t, exec (.wrCsid 2) (lines 3) = .next t := ⟨by decide, _, rfl⟩

theorem test_witness_OperationsKeepParametersAndQueue :
    (∃ t, exec .reset beforeReset = .next t) ∧ ∃ t, exec .rdIp State.reset = .next t := ⟨⟨_, rfl⟩, _, rfl⟩

/-- A slot changed by its own write, by RESET, by a transfer, by RD.IP and by RD.RXDATA. -/
theorem test_witness_SlotsWrittenOnlyByTheirOperations :
    (after (.wrSckdiv 1) State.reset).map (fun t => t.reg 0) = some 1 ∧
    (after .reset (with1 0 1)).map (fun t => t.reg 0) = some 0 ∧
    (after (.wrTxdata 7) State.reset).map (fun t => t.reg 18) = some 7 ∧
    (after .rdIp (with1 29 0)).map (fun t => t.reg 29) = some 2 ∧
    (after .rdRxdata (rxSets.setReg 29 0)).map (fun t => t.reg 29) = some 2 := by decide

/-- The last slot but IP, RXDATA with its parameter false, and the first index out of range. -/
theorem test_witness_ReadsWithoutSideEffect :
    (readOperation 28 ≠ .rdIp ∧ readOperation 28 ≠ .rdRxdata) ∧
    (readOperation 19 = .rdRxdata ∧ State.reset.params.rxdataRdSetsRxwm = false) ∧
    readOperation 30 ≠ .rdIp ∧ readOperation 30 ≠ .rdRxdata := by decide

/-- Two states that differ only in what is not persisted. -/
theorem test_witness_OutputsAreFunctionsOfTheBank :
    State.reset.live = true ∧ (answering 1 State.reset).live = true ∧ State.reset.Inv ∧ (answering 1 State.reset).Inv ∧
    State.reset.persisted = (answering 1 State.reset).persisted ∧
    State.reset.params = (answering 1 State.reset).params := by decide

theorem test_witness_XferReturnsTheAnswer :
    State.reset.live = true ∧ (queued (expandTxns (.xfer 0x9F)) State.reset).pending = expandTxns (.xfer 0x9F) ++ [] := by
  decide

theorem test_witness_DeselectSelectsNoLine :
    State.reset.live = true ∧ (queued (expandTxns .deselect) State.reset).pending = expandTxns .deselect ++ [] ∧
    0 < State.reset.numCs := by decide

theorem test_witness_BusAccessesReachTheBlock :
    (7 < 8 ∧ (0x80000000 : Word).getLsbD 31 = true ∧ (byteLane 0x80000000 3).getLsbD 7 = true) ∧
    memRead 0x10040000 (0x10040000 + (0xFFFFFFFF : Word).toNat) 4 = some (.read 0xFFFFFFFF 4) := by decide

end Sys2Proof.Tests
end

section
/-! The register bank (40_register_bank.md): the effects of Laws/Exec say exactly what `exec` does, no operation reads a
slot other than CSID, CSDEF, IE and IP, and the slots whose write only stores behave as R100 says. -/

namespace Sys2Proof.Machine

/-! ### `Effect` is the graph of `exec` -/

/-- The read of every slot but IP returns the slot and changes nothing, RXDATA where its parameter is false (R100). -/
theorem exec_readOperation {w : Slot} {s : State} (h29 : w ≠ 29) (hrx : w = 19 → s.params.rxdataRdSetsRxwm = false) :
    exec (readOperation (BitVec.ofNat 30 w.val)) s = .next { s with rdata := some (s.reg w) } := by
  by_cases h19 : w = 19
  · subst h19
    exact execRdRxdata_of_false (hrx rfl)
  · have hmem : ∀ u : Slot, u ≠ 19 → u ≠ 29 → u ∈ plainSlots.erase 19 ++ [4, 5, 6, 18, 28] := by decide
    have h := hmem w h19 h29
    fin_cases h <;> rfl

/-- The write of a plain slot stores and changes nothing else (R100). -/
theorem exec_writeOperation {w : Slot} (h : w ∈ plainSlots) (v : Word) (s : State) :
    exec (writeOperation (BitVec.ofNat 30 w.val) v) s = .next { s.setReg w v with rdata := none } := by
  fin_cases h <;> rfl

/-- An effect of an operation is what the operation does. -/
theorem exec_of_effect {i : Instr} {s t : State} (e : Effect s i t) : exec i s = .next t := by
  cases e with
  | plainRead w h hrx => exact exec_readOperation h hrx
  | plainWrite w v h => exact exec_writeOperation h v s
  | rxRead h => exact execRdRxdata_of_true h
  | ipRead => simp only [exec, execRdIp, State.returns, State.reg_pendRx_ip]
  | oorRead | oorWrite | transfer | ieWrite | ipWrite | csidWrite | csdefWrite | csmodeWrite | reset => rfl

/-! ### States that differ in one slot, under the named operations of R8 -/

namespace SameButSlot

variable {w : Slot} {s t : State}

theorem of_setReg (w : Slot) (s : State) (v : Word) : SameButSlot w s (s.setReg w v) :=
  ⟨fun _ hne => State.reg_setReg_ne s v hne, rfl, rfl, rfl, rfl, rfl, rfl, rfl⟩

theorem setReg (h : SameButSlot w s t) (u : Slot) (v : Word) : SameButSlot w (s.setReg u v) (t.setReg u v) := by
  obtain ⟨hreg, hrest⟩ := h
  exact ⟨fun w' hne => by simp only [State.reg_setReg, hreg w' hne], hrest⟩

/-- `UpdateIrq` reads IP and IE only (R160). -/
theorem updateIrq (h : SameButSlot w s t) (h28 : w ≠ 28) (h29 : w ≠ 29) : SameButSlot w s.updateIrq t.updateIrq := by
  obtain ⟨hreg, hirq, hcs, hparams, hlive, htrace, hrest⟩ := h
  have hnow : t.irqNow = s.irqNow := by
    simp only [State.irqNow_eq, hreg 28 h28.symm, hreg 29 h29.symm]
  have hevents : t.irqEvents = s.irqEvents := by simp only [State.irqEvents, hnow, hirq]
  exact ⟨hreg, hnow, hcs, hparams, hlive, by simp only [State.updateIrq_trace, htrace, hevents], hrest⟩

/-- `UpdateCs` reads CSID and CSDEF only (43_chip_select.md R180). -/
theorem updateCs (h : SameButSlot w s t) (h4 : w ≠ 4) (h5 : w ≠ 5) : SameButSlot w s.updateCs t.updateCs := by
  obtain ⟨hreg, hirq, hcs, hparams, hlive, htrace, hrest⟩ := h
  have hnum : t.numCs = s.numCs := congrArg Params.numCs hparams
  have hnow : t.csNow = s.csNow := by
    funext i; simp only [State.csNow_eq, hreg 4 h4.symm, hreg 5 h5.symm]
  have hevents : t.csEvents = s.csEvents := by simp only [State.csEvents, hnum, hnow, hcs]
  have hlevels : t.updateCs.cs = s.updateCs.cs := by
    simp only [State.updateCs_cs, hnum, hreg 4 h4.symm, hreg 5 h5.symm]
  exact ⟨hreg, hirq, hlevels, hparams, hlive, by simp only [State.updateCs_trace, htrace, hevents], hrest⟩

/-- An exchange reads no slot: its answer depends on the environment, the events and the select levels (R141). -/
theorem receive (h : SameButSlot w s t) (tx : Byte) : SameButSlot w (s.receive tx) (t.receive tx) := by
  obtain ⟨hreg, hirq, hcs, hparams, hlive, htrace, hanswers, hpending⟩ := h
  have hanswer : t.answer tx = s.answer tx := by simp only [State.answer, hanswers, htrace, hcs]
  have hexchange : SameButSlot w (s.exchange tx) (t.exchange tx) :=
    ⟨hreg, hirq, hcs, hparams, hlive, by simp only [State.exchange_trace, htrace, hanswer],
      congrArg List.tail hanswers, hpending⟩
  simpa only [State.receive, hanswer] using hexchange.setReg 19 (zext32 (s.answer tx))

theorem pendRx (h : SameButSlot w s t) (h28 : w ≠ 28) (h29 : w ≠ 29) : SameButSlot w s.pendRx t.pendRx := by
  have h' := (h.setReg 29 (setRxwm (s.reg 29))).updateIrq h28 h29
  simpa only [State.pendRx, h.1 29 h29.symm] using h'

theorem pendTx (h : SameButSlot w s t) (h28 : w ≠ 28) (h29 : w ≠ 29) : SameButSlot w s.pendTx t.pendTx := by
  have h' := (h.setReg 29 (setTxwm (s.reg 29))).updateIrq h28 h29
  simpa only [State.pendTx, h.1 29 h29.symm] using h'

theorem resetRegisters (h : SameButSlot w s t) : SameButSlot w s.resetRegisters t.resetRegisters := by
  obtain ⟨-, hrest⟩ := h
  exact ⟨fun _ _ => rfl, hrest⟩

end SameButSlot

/-! ### What no rule reads -/

/-- An operation does the same in two states that differ in a slot other than CSID, CSDEF, IE and IP, except that the
read of that slot returns it. -/
theorem exec_sameButSlot {w : Slot} (hw : w ∉ ([4, 5, 28, 29] : List Slot)) {i : Instr} {s s' t : State}
    (h : SameButSlot w s s') (e : exec i s = .next t) :
    ∃ t', exec i s' = .next t' ∧ SameButSlot w t t' ∧
      (i ≠ readOperation (BitVec.ofNat 30 w.val) → t'.rdata = t.rdata) := by
  obtain ⟨h4, h5, h28, h29⟩ : w ≠ 4 ∧ w ≠ 5 ∧ w ≠ 28 ∧ w ≠ 29 := by simpa using hw
  have ⟨hreg, _, _, hparams, _⟩ := h
  cases effect_of_exec e with
  | plainRead u hu hrx =>
    refine ⟨_, exec_of_effect (.plainRead u hu (hparams ▸ hrx)), h, fun hne => ?_⟩
    have huw : u ≠ w := by rintro rfl; exact hne rfl
    exact congrArg some (hreg u huw)
  | oorRead widx => exact ⟨_, rfl, h, fun _ => rfl⟩
  | ipRead =>
    refine ⟨_, exec_of_effect .ipRead, h.pendRx h28 h29, fun _ => ?_⟩
    simp only [hparams, hreg 29 h29.symm]
  | rxRead hrx =>
    refine ⟨_, exec_of_effect (.rxRead (hparams ▸ hrx)), h.pendRx h28 h29, fun hne => ?_⟩
    have h19 : (19 : Slot) ≠ w := by rintro rfl; exact hne rfl
    exact congrArg some (hreg 19 h19)
  | oorWrite widx v => exact ⟨_, rfl, h, fun _ => rfl⟩
  | plainWrite u v hu => exact ⟨_, exec_writeOperation hu v s', h.setReg u v, fun _ => rfl⟩
  | transfer v => exact ⟨_, rfl, ((h.setReg 18 _).receive _).pendTx h28 h29, fun _ => rfl⟩
  | ieWrite v => exact ⟨_, rfl, (h.setReg 28 v).updateIrq h28 h29, fun _ => rfl⟩
  | ipWrite v => exact ⟨_, rfl, (h.setReg 29 v).updateIrq h28 h29, fun _ => rfl⟩
  | csidWrite v => exact ⟨_, rfl, (h.setReg 4 v).updateCs h4 h5, fun _ => rfl⟩
  | csdefWrite v => exact ⟨_, rfl, (h.setReg 5 v).updateCs h4 h5, fun _ => rfl⟩
  | csmodeWrite v => exact ⟨_, rfl, (h.setReg 6 v).updateCs h4 h5, fun _ => rfl⟩
  | reset =>
    obtain ⟨hreg', hirq, hcs, hparams', -, hrest⟩ := (h.resetRegisters.updateIrq h28 h29).updateCs h4 h5
    exact ⟨_, rfl, ⟨hreg', hirq, hcs, hparams', rfl, hrest⟩, fun _ => rfl⟩

/-- No rule reads a slot other than CSID, CSDEF, IE and IP (10_state.md section 2). -/
theorem neverRead_of_notMem {w : Slot} (hw : w ∉ ([4, 5, 28, 29] : List Slot)) : NeverRead w := by
  intro i s v
  obtain ⟨t, e, -⟩ := exec_effect i s
  obtain ⟨t', e', hsame, hrdata⟩ := exec_sameButSlot hw (SameButSlot.of_setReg w s v) e
  exact ⟨t, t', e, e', hsame, hrdata⟩

/-! ### Stored-only registers -/

theorem readEncoded_readOperation (k : WordIndex) : ReadEncoded (readOperation k) (offsetOf k) (accessKey 0#1 k) :=
  ⟨decode_readTxn k, by simp [Txn.key]⟩

theorem writeEncoded_writeOperation (k : WordIndex) : WriteEncoded (writeOperation k) (offsetOf k) (accessKey 1#1 k) :=
  fun v => ⟨decode_writeTxn k v, by simp [Txn.key]⟩

theorem plainRead_readOperation {w : Slot} (h19 : w ≠ 19) (h29 : w ≠ 29) :
    PlainRead (readOperation (BitVec.ofNat 30 w.val)) w :=
  fun _ => exec_readOperation h29 (absurd · h19)

theorem plainWrite_writeOperation {w : Slot} (h : w ∈ plainSlots) :
    PlainWrite (writeOperation (BitVec.ofNat 30 w.val)) w :=
  exec_writeOperation h

/-- A plain read returns what a plain write of the same slot stored. -/
theorem PlainRead.readsBack {rd : Instr} {wr : Word → Instr} {w : Slot} (hrd : PlainRead rd w) (hwr : PlainWrite wr w) :
    ReadsBack rd wr := by
  intro v s
  refine ⟨_, hwr v s, ?_⟩
  have hv : State.reg { s with bank := s.bank.set w v, rdata := none } w = v := State.reg_setReg_same s w v
  rw [hrd, hv]

/-- The read of a plain slot but RXDATA meets R100. -/
theorem storedRead_of_mem_plainSlots {w : Slot} (h : w ∈ plainSlots) (h19 : w ≠ 19) :
    StoredRead (readOperation (BitVec.ofNat 30 w.val)) (writeOperation (BitVec.ofNat 30 w.val)) w
      (offsetOf (BitVec.ofNat 30 w.val)) (accessKey 0#1 (BitVec.ofNat 30 w.val)) resetBank[w] := by
  have h29 : w ≠ 29 := by rintro rfl; exact absurd h (by decide)
  have hrd := plainRead_readOperation h19 h29
  exact ⟨readEncoded_readOperation _, hrd, hrd.readsBack (plainWrite_writeOperation h), fun _ => rfl⟩

theorem neverRead_of_mem_plainSlots {w : Slot} (h : w ∈ plainSlots) : NeverRead w := by
  have hdisjoint : ∀ u ∈ plainSlots, u ∉ ([4, 5, 28, 29] : List Slot) := by decide
  exact neverRead_of_notMem (hdisjoint w h)

/-- The write of a plain slot meets R100. -/
theorem storedWrite_of_mem_plainSlots {w : Slot} (h : w ∈ plainSlots) :
    StoredWrite (writeOperation (BitVec.ofNat 30 w.val)) w (offsetOf (BitVec.ofNat 30 w.val))
      (accessKey 1#1 (BitVec.ofNat 30 w.val)) :=
  ⟨writeEncoded_writeOperation _, plainWrite_writeOperation h, neverRead_of_mem_plainSlots h⟩

/-- Settles O12: each of the seven slots is plain, and 0 in the reset bank. -/
theorem namedStoredOnlyReads : Obligations.NamedStoredOnlyReads := by
  have hplain : ∀ w ∈ ([0, 1, 10, 11, 16, 24, 25] : List Slot), w ∈ plainSlots := by decide
  exact ⟨
    storedRead_of_mem_plainSlots (w := 0) (by decide) (by decide),
    storedRead_of_mem_plainSlots (w := 1) (by decide) (by decide),
    storedRead_of_mem_plainSlots (w := 10) (by decide) (by decide),
    storedRead_of_mem_plainSlots (w := 11) (by decide) (by decide),
    storedRead_of_mem_plainSlots (w := 16) (by decide) (by decide),
    storedRead_of_mem_plainSlots (w := 24) (by decide) (by decide),
    storedRead_of_mem_plainSlots (w := 25) (by decide) (by decide),
    fun w hw => neverRead_of_mem_plainSlots (hplain w hw)⟩

/-- Settles O13: each of the seven slots is plain. -/
theorem namedStoredOnlyWrites : Obligations.NamedStoredOnlyWrites :=
  ⟨storedWrite_of_mem_plainSlots (w := 0) (by decide),
    storedWrite_of_mem_plainSlots (w := 1) (by decide),
    storedWrite_of_mem_plainSlots (w := 10) (by decide),
    storedWrite_of_mem_plainSlots (w := 11) (by decide),
    storedWrite_of_mem_plainSlots (w := 16) (by decide),
    storedWrite_of_mem_plainSlots (w := 24) (by decide),
    storedWrite_of_mem_plainSlots (w := 25) (by decide)⟩

end Sys2Proof.Machine
end

section
/-! The pending bits (42_interrupt_logic.md R165): what an operation does to IP, and that only a `WR.IP` and `RESET`
take a bit out of it. -/

namespace Sys2Proof.Machine

/-- An operation only adds bits to IP, except `WR.IP`, which stores its wdata, and `RESET`, which leaves 3
(R163, R164, 41_transfer_engine.md R140, 70_reset_and_hazards.md R220). -/
theorem exec_ip_cases {i : Instr} {s t : State} (h : exec i s = .next t) :
    (∃ m : Word, t.reg 29 = s.reg 29 ||| m) ∨ i = .wrIp (t.reg 29) ∨ (i = .reset ∧ t.reg 29 = 3) := by
  have kept {u : State} (hu : u.reg 29 = s.reg 29) : ∃ m : Word, u.reg 29 = s.reg 29 ||| m :=
    ⟨0, by simp [hu]⟩
  cases effect_of_exec h with
  | plainRead | oorRead | oorWrite => exact .inl (kept rfl)
  | plainWrite w v hw =>
    have h29 : (29 : Slot) ≠ w := by rintro rfl; exact absurd hw (by decide)
    exact .inl (kept (State.reg_setReg_ne s v h29))
  | ieWrite v | csidWrite v | csdefWrite v | csmodeWrite v =>
    exact .inl (kept (State.reg_setReg_ne s v (by decide)))
  | ipRead | rxRead => exact .inl ⟨2, State.reg_pendRx_ip s⟩
  | transfer v =>
    have hip : ((s.setReg 18 (zext32 (txByte v))).receive (txByte v)).reg 29 = s.reg 29 := by simp
    exact .inl ⟨1, (State.reg_pendTx_ip _).trans (congrArg setTxwm hip)⟩
  | ipWrite v => exact .inr (.inl (congrArg Instr.wrIp (State.reg_setReg_same s 29 v).symm))
  | reset => exact .inr (.inr ⟨rfl, rfl⟩)

/-- The IP that `RESET` leaves has exactly bits 0 (TXWM) and 1 (RXWM) set (R165, R220). -/
theorem getLsbD_resetIp (n : Nat) : (3 : Word).getLsbD n = decide (n < 2) := by
  match n with
  | 0 | 1 => rfl
  | n + 2 => simp [BitVec.getLsbD, Nat.testBit_add]

/-- Settles O32: an or keeps every bit that is 1, so a bit that goes is one that `WR.IP` or `RESET` left 0. -/
theorem pendingBitsAreSticky : Obligations.PendingBitsAreSticky := by
  refine ⟨fun i s t n h hset hclear => ?_, fun s => ⟨_, rfl, getLsbD_resetIp⟩⟩
  obtain ⟨m, hm⟩ | hwr | ⟨hreset, hip⟩ := exec_ip_cases h
  · simp [hm, hset] at hclear
  · exact .inl ⟨_, hwr, hclear⟩
  · rw [hip, getLsbD_resetIp] at hclear
    exact .inr ⟨hreset, Nat.le_of_not_lt (of_decide_eq_false hclear)⟩

end Sys2Proof.Machine
end

section
/-! The decoder and the encoder are inverse to each other (30_encoding.md R83, R85), which accesses are refused or out
of range, and the opcode table of R81 agrees with the decoder. -/

namespace Sys2Proof

/-- A word index is out of range, or it is the index of a slot (R82 b). -/
theorem wordIndex_cases (w : WordIndex) : 30 ≤ w.toNat ∨ ∃ u : Slot, w = BitVec.ofNat 30 u.val := by
  rcases Nat.lt_or_ge w.toNat 30 with h | h
  · exact .inr ⟨⟨w.toNat, h⟩, by simp⟩
  · exact .inl h

theorem outOfRange_iff (w : WordIndex) : outOfRange w = true ↔ 30 ≤ w.toNat := by
  simp [outOfRange]

/-- What a well-formed operation is, with its transaction: RESET, or the read or the write operation of a word index
(R83). -/
theorem encode_cases {i : Instr} (h : i.wellFormed = true) :
    (encode i = .rst ∧ i = .reset) ∨ (∃ w, encode i = readTxn w ∧ i = readOperation w) ∨
      ∃ w v, encode i = writeTxn w v ∧ i = writeOperation w v := by
  cases i with
  | reset => exact .inl ⟨rfl, rfl⟩
  | rdOor w => exact .inr (.inl ⟨w, rfl, (readOperation_of_le ((outOfRange_iff w).mp h)).symm⟩)
  | wrOor w v => exact .inr (.inr ⟨w, v, rfl, (writeOperation_of_le v ((outOfRange_iff w).mp h)).symm⟩)
  | rdSckdiv | rdSckmode | rdRsvd02 | rdRsvd03 | rdCsid | rdCsdef | rdCsmode | rdRsvd07 | rdRsvd08 | rdRsvd09
  | rdDelay0 | rdDelay1 | rdRsvd12 | rdRsvd13 | rdRsvd14 | rdRsvd15 | rdFmt | rdRsvd17 | rdTxdata | rdRxdata
  | rdTxmark | rdRxmark | rdRsvd22 | rdRsvd23 | rdFctrl | rdFfmt | rdRsvd26 | rdRsvd27 | rdIe | rdIp =>
    exact .inr (.inl ⟨_, rfl, rfl⟩)
  | wrSckdiv v | wrSckmode v | wrRsvd02 v | wrRsvd03 v | wrCsid v | wrCsdef v | wrCsmode v | wrRsvd07 v | wrRsvd08 v
  | wrRsvd09 v | wrDelay0 v | wrDelay1 v | wrRsvd12 v | wrRsvd13 v | wrRsvd14 v | wrRsvd15 v | wrFmt v | wrRsvd17 v
  | wrTxdata v | wrRxdata v | wrTxmark v | wrRxmark v | wrRsvd22 v | wrRsvd23 v | wrFctrl v | wrFfmt v | wrRsvd26 v
  | wrRsvd27 v | wrIe v | wrIp v =>
    exact .inr (.inr ⟨_, v, rfl, rfl⟩)

/-- Decoding the transaction of a well-formed operation gives the operation back. -/
theorem decode_encode {i : Instr} (h : i.wellFormed = true) : decode (encode i) = .ok i := by
  obtain ⟨he, hi⟩ | ⟨w, he, hi⟩ | ⟨w, v, he, hi⟩ := encode_cases h
  · rw [he, hi]; rfl
  · rw [he, hi, decode_readTxn]
  · rw [he, hi, decode_writeTxn]

/-- The read operation of a word index is well formed, and its transaction is the read of that index (R83). -/
theorem encode_readOperation (w : WordIndex) :
    encode (readOperation w) = readTxn w ∧ (readOperation w).wellFormed = true := by
  obtain h | ⟨u, rfl⟩ := wordIndex_cases w
  · rw [readOperation_of_le h]
    exact ⟨rfl, (outOfRange_iff w).mpr h⟩
  · fin_cases u <;> exact ⟨rfl, rfl⟩

/-- The write operation of a word index is well formed, and its transaction is the write of that index (R83). -/
theorem encode_writeOperation (w : WordIndex) (v : Word) :
    encode (writeOperation w v) = writeTxn w v ∧ (writeOperation w v).wellFormed = true := by
  obtain h | ⟨u, rfl⟩ := wordIndex_cases w
  · rw [writeOperation_of_le v h]
    exact ⟨rfl, (outOfRange_iff w).mpr h⟩
  · fin_cases u <;> exact ⟨rfl, rfl⟩

/-- Settles O1: a well-formed operation is that of a word index, whose transaction decodes to it. -/
theorem decodeInvertsEncode : Obligations.DecodeInvertsEncode :=
  fun _ => decode_encode

/-- Settles O2: a transaction that decodes is that of a word index, whose operation encodes to it. -/
theorem encodeInvertsDecode : Obligations.EncodeInvertsDecode := by
  intro t i h
  obtain ⟨rfl, rfl⟩ | ⟨w, rfl, rfl⟩ | ⟨w, v, rfl, rfl⟩ := decode_cases h
  · exact ⟨rfl, rfl⟩
  · exact encode_readOperation w
  · exact encode_writeOperation w v

/-! ### Refusals and the range of offsets -/

/-- The read of an aligned offset is the read transaction of its word index (R82 a). -/
theorem read_eq_readTxn {offset : Word} (h : offset.toNat % 4 = 0) :
    Txn.read offset 4 = readTxn (wordIndex offset) := by
  rw [readTxn, offsetOf_wordIndex ((aligned_iff offset).mpr h)]

/-- The write at an aligned offset is the write transaction of its word index (R82 a). -/
theorem write_eq_writeTxn {offset : Word} (v : Word) (h : offset.toNat % 4 = 0) :
    Txn.write offset 4 v = writeTxn (wordIndex offset) v := by
  rw [writeTxn, offsetOf_wordIndex ((aligned_iff offset).mpr h)]

theorem accessCheck_of_size_ne {offset : Word} {size : Nat} (h : size ≠ 4) :
    accessCheck offset size = .error .badSize := by
  simp [accessCheck, h]

theorem accessCheck_of_misaligned {offset : Word} (h : offset.toNat % 4 ≠ 0) :
    accessCheck offset 4 = .error .misaligned := by
  have ha : ¬ aligned offset = true := fun ha => h ((aligned_iff offset).mp ha)
  simp [accessCheck, ha]

/-- An access that fails the check is no operation, read and write alike (R84 c). -/
theorem decode_of_accessCheck_error {offset : Word} {size : Nat} {e : DecodeError}
    (h : accessCheck offset size = .error e) (v : Word) :
    decode (.read offset size) = .error e ∧ decode (.write offset size v) = .error e := by
  simp [decode, h]

/-- Settles O3: the three outcomes of the interface's check. -/
theorem decodeRefusesExactlyIllFormed : Obligations.DecodeRefusesExactlyIllFormed := by
  refine ⟨rfl, fun offset size v => ⟨fun hs => ?_, ?_, ?_⟩⟩
  · exact decode_of_accessCheck_error (accessCheck_of_size_ne hs) v
  · rintro rfl hmis
    exact decode_of_accessCheck_error (accessCheck_of_misaligned hmis) v
  · rintro rfl halign
    rw [read_eq_readTxn halign, write_eq_writeTxn v halign]
    exact ⟨_, _, decode_readTxn _, decode_writeTxn _ v⟩

/-- The operations of a slot are not the out-of-range ones (R83). -/
theorem slot_operation_ne_oor (w : Slot) (v : Word) (widx : WordIndex) (v' : Word) :
    readOperation (BitVec.ofNat 30 w.val) ≠ .rdOor widx ∧
      writeOperation (BitVec.ofNat 30 w.val) v ≠ .wrOor widx v' := by
  fin_cases w <;> exact ⟨nofun, nofun⟩

/-- Settles O4: an aligned access is that of the word index offset/4, and 0x78 is the offset of word index 30. -/
theorem outOfRangeFromOffset78 : Obligations.OutOfRangeFromOffset78 := by
  intro offset v halign
  have hw := toNat_wordIndex offset
  have hread := decode_readTxn (wordIndex offset)
  have hwrite := decode_writeTxn (wordIndex offset) v
  rw [← read_eq_readTxn halign] at hread
  rw [← write_eq_writeTxn v halign] at hwrite
  refine ⟨fun hhigh => ?_, fun hlow => ?_⟩
  · have hge : 30 ≤ (wordIndex offset).toNat := by omega
    rw [readOperation_of_le hge] at hread
    rw [writeOperation_of_le v hge] at hwrite
    exact ⟨wordIndex offset, hw, hread, hwrite⟩
  · obtain hge | ⟨u, hu⟩ := wordIndex_cases (wordIndex offset)
    · omega
    · rw [hu] at hread hwrite
      have huval : u.val = offset.toNat / 4 := by
        rw [← hw, hu, BitVec.toNat_ofNat, Nat.mod_eq_of_lt (by omega)]
      refine ⟨⟨u, huval, hread, hwrite⟩, fun widx v' => ?_⟩
      have hne := slot_operation_ne_oor u v widx v'
      rw [hread, hwrite]
      exact ⟨fun h => hne.1 (Except.ok.inj h), fun h => hne.2 (Except.ok.inj h)⟩

/-- Settles O6, by evaluating the decoder. -/
theorem sampleTransactionsDecode : Obligations.SampleTransactionsDecode :=
  ⟨rfl, rfl, rfl, rfl, rfl, rfl, rfl, rfl, rfl, rfl, rfl, rfl, rfl, rfl⟩

/-! ### The opcode table -/
/-- What a transaction with a key is: the read or the write of a word index (R81). -/
theorem key_cases {t : Txn} {k : Key} (h : t.key = some k) :
    (∃ w, t = readTxn w ∧ k = accessKey 0#1 w) ∨ ∃ w v, t = writeTxn w v ∧ k = accessKey 1#1 w := by
  cases t with
  | rst => cases h
  | read offset size =>
    obtain ⟨⟨rfl, ha⟩, rfl⟩ : (size = 4 ∧ aligned offset = true) ∧ accessKey 0#1 (wordIndex offset) = k := by
      simpa [Txn.key] using h
    exact .inl ⟨_, by rw [readTxn, offsetOf_wordIndex ha], rfl⟩
  | write offset size v =>
    obtain ⟨⟨rfl, ha⟩, rfl⟩ : (size = 4 ∧ aligned offset = true) ∧ accessKey 1#1 (wordIndex offset) = k := by
      simpa [Txn.key] using h
    exact .inr ⟨_, v, by rw [writeTxn, offsetOf_wordIndex ha], rfl⟩

/-- The rows of the 30 slots. -/
def slotRows : List TableRow := tableRows1 ++ tableRows2 ++ tableRows3 ++ tableRows4 ++ tableRows5

theorem opcodeTable_eq : opcodeTable = slotRows ++ tableRowsOor := rfl

/-- A slot's row compares the whole key, and with a key whose word index is in range. -/
theorem slotRows_exact : ∀ row ∈ slotRows, row.mask = 0x7FFFFFFF ∧ (row.value.setWidth 30).toNat < 30 := by
  decide

/-- No slot's row matches the key of an index out of range (R81). -/
theorem find?_slotRows_of_le {we : BitVec 1} {w : WordIndex} (h : 30 ≤ w.toNat) :
    slotRows.find? (fun row => accessKey we w &&& row.mask == row.value) = none := by
  rw [List.find?_eq_none]
  intro row hrow hmatch
  obtain ⟨hmask, hlt⟩ := slotRows_exact row hrow
  have hall : (0x7FFFFFFF : Key) = BitVec.allOnes 31 := rfl
  rw [hmask, hall, BitVec.and_allOnes, beq_iff_eq] at hmatch
  rw [← hmatch, setWidth_accessKey] at hlt
  omega

/-- The mask of the last two rows keeps the direction bit only (R81). -/
theorem accessKey_and_direction (we : BitVec 1) (w : WordIndex) :
    accessKey we w &&& 0x40000000 = if we.getLsbD 0 then 0x40000000 else 0 := by
  have hbit : (accessKey we w).getLsbD 30 = we.getLsbD 0 :=
    (BitVec.getLsbD_append (x := we) (y := w) (i := 30)).trans (by simp)
  have hmask : (0x40000000 : Key) = BitVec.twoPow 31 30 := rfl
  rw [hmask, BitVec.and_twoPow, hbit]
  rfl

/-- The first matching row of an index out of range is one of the last two (R81). -/
theorem tableLookup_of_le {w : WordIndex} (h : 30 ≤ w.toNat) (v : Word) :
    tableLookup (accessKey 0#1 w) v = some (.rdOor w) ∧ tableLookup (accessKey 1#1 w) v = some (.wrOor w v) := by
  constructor
  · have hrow : accessKey 0#1 w &&& 0x40000000#31 = 0#31 := accessKey_and_direction 0#1 w
    simp [tableLookup, opcodeTable_eq, find?_slotRows_of_le h, tableRowsOor, hrow, setWidth_accessKey]
  · have hrow : accessKey 1#1 w &&& 0x40000000#31 = 0x40000000#31 := accessKey_and_direction 1#1 w
    simp [tableLookup, opcodeTable_eq, find?_slotRows_of_le h, tableRowsOor, hrow, setWidth_accessKey]

/-- The first matching row of a word index is the row of its operation (R81, R83). -/
theorem tableLookup_accessKey (w : WordIndex) (v : Word) :
    tableLookup (accessKey 0#1 w) v = some (readOperation w) ∧
      tableLookup (accessKey 1#1 w) v = some (writeOperation w v) := by
  obtain h | ⟨u, rfl⟩ := wordIndex_cases w
  · rw [readOperation_of_le h, writeOperation_of_le v h]
    exact tableLookup_of_le h v
  · fin_cases u <;> exact ⟨rfl, rfl⟩

/-- Settles O5: the table looks up the word index of the key, as the decoder does. -/
theorem tableFirstMatchIsDecode : Obligations.TableFirstMatchIsDecode := by
  intro t k h
  obtain ⟨w, rfl, rfl⟩ | ⟨w, v, rfl, rfl⟩ := key_cases h
  · exact ⟨_, decode_readTxn w, (tableLookup_accessKey w 0).1⟩
  · exact ⟨_, decode_writeTxn w v, (tableLookup_accessKey w v).2⟩

end Sys2Proof
end

section
/-! What a step does with the next transaction (30_encoding.md R85, 70_reset_and_hazards.md R222), what every operation
keeps, and that a slot other than CSID, CSDEF, IE and IP reaches no output over any run (40_register_bank.md R100). -/

namespace Sys2Proof.Machine

/-- A step runs the operation of the next transaction on the rest of the queue (R11, R85). -/
theorem step_of_decode {s : State} {txn : Txn} {rest : List Txn} {i : Instr} (hp : s.pending = txn :: rest)
    (hd : decode txn = .ok i) (hlive : s.live = true ∨ i = .reset) : step s = exec i { s with pending := rest } := by
  have hop : State.operation { s with pending := rest } txn = .ok i := State.operation_eq_ok.mpr ⟨hd, hlive⟩
  simp only [step_of_cons hp, hop]

/-- A step refuses a transaction that is no operation (R84 c). -/
theorem step_of_decode_error {s : State} {txn : Txn} {rest : List Txn} {e : DecodeError}
    (hp : s.pending = txn :: rest) (hd : decode txn = .error e) : step s = .refused (refusalOf e) := by
  have hop : State.operation { s with pending := rest } txn = .error (refusalOf e) := by simp only [State.operation, hd]
  simp only [step_of_cons hp, hop]

/-- Settles O7: the step law of a transaction that decodes. -/
theorem stepRunsDecodedOperation : Obligations.StepRunsDecodedOperation :=
  fun _ _ _ _ => step_of_decode

/-- Settles O8: the decoder refuses the access, read and write alike. -/
theorem stepRefusesIllFormedTransaction : Obligations.StepRefusesIllFormedTransaction := by
  intro s rest offset v size hp
  have refused {e : DecodeError} (he : accessCheck offset size = .error e) : step s = .refused (refusalOf e) := by
    obtain ⟨hread, hwrite⟩ := decode_of_accessCheck_error he v
    obtain hp | hp := hp
    · exact step_of_decode_error hp hread
    · exact step_of_decode_error hp hwrite
  refine ⟨fun hs => refused (accessCheck_of_size_ne hs), ?_⟩
  rintro rfl hmis
  exact refused (accessCheck_of_misaligned hmis)

/-- Settles O9: the transaction decodes, but its operation is not accepted. -/
theorem onlyResetBeforeFirstReset : Obligations.OnlyResetBeforeFirstReset := by
  intro s txn rest i hlive hp hd hi
  have hop : State.operation { s with pending := rest } txn = .error .beforeFirstReset := by
    simp [State.operation, State.accepts, hd, hlive, hi]
  simp only [step_of_cons hp, hop]

/-- Settles O10: the step law of the empty queue. -/
theorem stepIdlesWithoutTransaction : Obligations.StepIdlesWithoutTransaction :=
  fun _ => step_of_empty

/-- Settles O11: every operation has an effect, and there is no fault to answer. -/
theorem everyOperationCompletes : Obligations.EveryOperationCompletes := by
  refine ⟨fun i s => ?_, fun _ f => nomatch f⟩
  obtain ⟨t, h, -⟩ := exec_effect i s
  exact ⟨t, h⟩

/-! ### What every operation keeps -/

/-- RESET is not the read of a word index: their transactions differ (R83). -/
theorem readOperation_ne_reset (w : WordIndex) : readOperation w ≠ .reset := by
  intro h
  have he := (encode_readOperation w).1
  rw [h] at he; cases he

/-- RESET is not the write of a word index: their transactions differ (R83). -/
theorem writeOperation_ne_reset (w : WordIndex) (v : Word) : writeOperation w v ≠ .reset := by
  intro h
  have he := (encode_writeOperation w v).1
  rw [h] at he; cases he

/-- Settles O47: only RESET writes one of the three fields, and it writes `live`. -/
theorem operationsKeepParametersAndQueue : Obligations.OperationsKeepParametersAndQueue := by
  intro i s t h
  cases effect_of_exec h with
  | reset => exact ⟨rfl, rfl, by simp⟩
  | plainRead w => exact ⟨rfl, rfl, by simp [readOperation_ne_reset]⟩
  | plainWrite w v => exact ⟨rfl, rfl, by simp [writeOperation_ne_reset]⟩
  | oorRead | ipRead | rxRead | oorWrite | transfer | ieWrite | ipWrite | csidWrite | csdefWrite | csmodeWrite =>
    exact ⟨rfl, rfl, by simp⟩

/-- An operation keeps the number of select lines (10_state.md R49). -/
theorem exec_numCs {i : Instr} {s t : State} (h : exec i s = .next t) : t.numCs = s.numCs :=
  congrArg Params.numCs (operationsKeepParametersAndQueue i s t h).1

/-! ### Slots that reach no output -/

/-- A step does the same in two states that differ in a slot other than CSID, CSDEF, IE and IP. -/
theorem step_sameButSlot {w : Slot} (hw : w ∉ ([4, 5, 28, 29] : List Slot)) {s s' t : State} (h : SameButSlot w s s')
    (e : step s = .next t) : ∃ t', step s' = .next t' ∧ SameButSlot w t t' := by
  have ⟨hreg, hirq, hcs, hparams, hlive, htrace, hanswers, hpending⟩ := h
  obtain ⟨hp, rfl⟩ | ⟨txn, rest, i, hp, hd, hrun, e⟩ := step_cases e
  · exact ⟨s', step_of_empty (hpending.trans hp), h⟩
  · have hrest : SameButSlot w { s with pending := rest } { s' with pending := rest } :=
      ⟨hreg, hirq, hcs, hparams, hlive, htrace, hanswers, rfl⟩
    obtain ⟨t', e', hsame, -⟩ := exec_sameButSlot hw hrest e
    exact ⟨t', (step_of_decode (hpending.trans hp) hd (hlive ▸ hrun)).trans e', hsame⟩

/-- A run does the same in two states that differ in a slot other than CSID, CSDEF, IE and IP. -/
theorem run_sameButSlot {w : Slot} (hw : w ∉ ([4, 5, 28, 29] : List Slot)) {k : Nat} {s s' t : State}
    (h : SameButSlot w s s') (e : Sys2Proof.core.run k s = .next t) :
    ∃ t' : State, Sys2Proof.core.run k s' = .next t' ∧ SameButSlot w t t' := by
  induction k generalizing s s' with
  | zero => cases e; exact ⟨s', rfl, h⟩
  | succ k ih =>
    obtain ⟨u, hu, e⟩ := run_succ.mp e
    obtain ⟨u', hu', hsame⟩ := step_sameButSlot hw h hu
    obtain ⟨t', e', hsame⟩ := ih hsame e
    exact ⟨t', run_succ.mpr ⟨u', hu', e'⟩, hsame⟩

/-- Settles O19: the two runs differ in the slot at the start, and every step keeps it so. -/
theorem unreadSlotsNeverReachAnOutput : Obligations.UnreadSlotsNeverReachAnOutput :=
  fun w hw _ s _ v e => run_sameButSlot hw (SameButSlot.of_setReg w s v) e

end Sys2Proof.Machine
end

section
/-! The events of an operation (00_scope.md R12): it only appends events, they say how the outputs moved, and it
exchanges one byte exactly where it is a write of TXDATA (41_transfer_engine.md R151). -/

namespace Sys2Proof.Machine

/-- The byte an operation transmits (R140, R151). -/
def transmits : Instr → Option Byte
  | .wrTxdata v => some (txByte v)
  | _ => none

theorem transmits_readOperation (w : WordIndex) : transmits (readOperation w) = none := by
  obtain h | ⟨u, rfl⟩ := wordIndex_cases w
  · rw [readOperation_of_le h]; rfl
  · fin_cases u <;> rfl

/-- Only the write of word index 18 transmits (R151, D4). -/
theorem transmits_writeOperation (w : WordIndex) (v : Word) :
    transmits (writeOperation w v) = if w = 18 then some (txByte v) else none := by
  obtain h | ⟨u, rfl⟩ := wordIndex_cases w
  · have hne : w ≠ 18 := by rintro rfl; exact absurd h (by decide)
    rw [writeOperation_of_le v h, if_neg hne]; rfl
  · fin_cases u <;> rfl

/-- A transaction transmits what its operation transmits. -/
theorem txnTransmits_of_decode {txn : Txn} {i : Instr} (h : decode txn = .ok i) : txnTransmits txn = transmits i := by
  obtain ⟨rfl, rfl⟩ | ⟨w, rfl, rfl⟩ | ⟨w, v, rfl, rfl⟩ := decode_cases h
  · rfl
  · exact (transmits_readOperation w).symm
  · have hoffset : offsetOf w = 0x48 ↔ w = 18 :=
      ⟨fun e => (wordIndex_offsetOf w).symm.trans (congrArg wordIndex e), fun e => congrArg offsetOf e⟩
    simp only [transmits_writeOperation, writeTxn, txnTransmits, hoffset, txByte]

/-- From `s` to `t` the events `es` were observed: they transmit the bytes `sent` and, replayed, take the outputs of `s`
to those of `t` (R12). -/
structure Emits (s t : State) (es : List Event) (sent : List Byte) : Prop where
  numCs : t.numCs = s.numCs
  trace : t.trace = s.trace ++ es
  sent : (exchangesOf es).map Prod.fst = sent
  irq : replayIrq s.irq es = some t.irq
  cs : s.cs.length = s.numCs → replayCs s.cs es = some t.cs

namespace Emits

variable {s t : State} {es : List Event} {sent : List Byte}

theorem refl (s : State) : Emits s s [] [] :=
  ⟨rfl, (List.append_nil _).symm, rfl, rfl, fun _ => rfl⟩

/-- A store emits nothing. -/
theorem setReg (h : Emits s t es sent) (w : Slot) (v : Word) : Emits s (t.setReg w v) es sent :=
  ⟨h.numCs, h.trace, h.sent, h.irq, h.cs⟩

/-- The read-data port and the life of the block are no output of R12. -/
theorem completed (h : Emits s t es sent) (live : Bool) (r : Option Word) :
    Emits s { t with live := live, rdata := r } es sent :=
  ⟨h.numCs, h.trace, h.sent, h.irq, h.cs⟩

theorem resetRegisters (h : Emits s t es sent) : Emits s t.resetRegisters es sent :=
  ⟨h.numCs, h.trace, h.sent, h.irq, h.cs⟩

theorem updateIrq (h : Emits s t es sent) : Emits s t.updateIrq (es ++ t.irqEvents) sent where
  numCs := h.numCs
  trace := by rw [State.updateIrq_trace, h.trace, List.append_assoc]
  sent := by rw [exchangesOf_append, exchangesOf_irqEvents, List.append_nil, h.sent]
  irq := by rw [replayIrq_append, h.irq]; exact replayIrq_irqEvents t
  cs hl := by rw [replayCs_append, h.cs hl]; exact replayCs_irqEvents t t.cs

theorem updateCs (h : Emits s t es sent) : Emits s t.updateCs (es ++ t.csEvents) sent where
  numCs := h.numCs
  trace := by rw [State.updateCs_trace, h.trace, List.append_assoc]
  sent := by rw [exchangesOf_append, exchangesOf_csEvents, List.append_nil, h.sent]
  irq := by rw [replayIrq_append, h.irq]; exact replayIrq_csEvents t t.irq
  cs hl := by
    have hlen : t.cs.length = t.numCs := by rw [length_of_replayCs (h.cs hl), hl, h.numCs]
    rw [replayCs_append, h.cs hl]
    exact replayCs_csEvents t hlen

theorem receive (h : Emits s t es sent) (tx : Byte) :
    Emits s (t.receive tx) (es ++ [.exch tx (t.answer tx)]) (sent ++ [tx]) where
  numCs := h.numCs
  trace := by rw [State.receive_trace, h.trace, List.append_assoc]
  sent := by rw [exchangesOf_append, List.map_append, h.sent]; rfl
  irq := by rw [replayIrq_append, h.irq]; rfl
  cs hl := by rw [replayCs_append, h.cs hl]; rfl

end Emits

/-- The events of an operation: one exchange exactly where it transmits, and every change of an output. -/
theorem exec_emits {i : Instr} {s t : State} (h : exec i s = .next t) :
    ∃ es, Emits s t es (transmits i).toList := by
  have start := Emits.refl s
  cases effect_of_exec h with
  | plainRead w => rw [transmits_readOperation]; exact ⟨_, start.completed _ _⟩
  | oorRead | oorWrite => exact ⟨_, start.completed _ _⟩
  | plainWrite w v hw =>
    have h18 : ∀ u ∈ plainSlots, BitVec.ofNat 30 u.val ≠ 18 := by decide
    rw [transmits_writeOperation, if_neg (h18 w hw)]
    exact ⟨_, (start.setReg w v).completed _ _⟩
  | ipRead | rxRead => exact ⟨_, (start.setReg 29 _).updateIrq.completed _ _⟩
  | transfer v => exact ⟨_, (((start.setReg 18 _).receive (txByte v)).setReg 29 _).updateIrq.completed _ _⟩
  | ieWrite v => exact ⟨_, (start.setReg 28 v).updateIrq.completed _ _⟩
  | ipWrite v => exact ⟨_, (start.setReg 29 v).updateIrq.completed _ _⟩
  | csidWrite v => exact ⟨_, (start.setReg 4 v).updateCs.completed _ _⟩
  | csdefWrite v => exact ⟨_, (start.setReg 5 v).updateCs.completed _ _⟩
  | csmodeWrite v => exact ⟨_, (start.setReg 6 v).updateCs.completed _ _⟩
  | reset => exact ⟨_, start.resetRegisters.updateIrq.updateCs.completed _ _⟩

/-- Settles O46: the events of the operation. -/
theorem operationsAppendGenuineChanges : Obligations.OperationsAppendGenuineChanges := by
  intro i s t hl h
  obtain ⟨es, e⟩ := exec_emits h
  refine ⟨es, e.trace, e.irq, e.cs hl, ?_⟩
  rw [← List.length_map Prod.fst, e.sent]
  cases i <;> rfl

/-- An operation keeps the outputs what the observed events say: its events take them on from there. -/
theorem Emits.observed {s t : State} {es : List Event} {sent : List Byte} (e : Emits s t es sent) (h : s.Observed) :
    t.Observed := by
  obtain ⟨hirq, hcs⟩ := h
  have hl : s.cs.length = s.numCs := by simpa using length_of_replayCs hcs
  refine ⟨?_, ?_⟩
  · rw [e.trace, replayIrq_append, hirq]; exact e.irq
  · rw [e.trace, e.numCs, replayCs_append, hcs]; exact e.cs hl

/-- Settles O45: an idle step changes nothing, and an operation only appends genuine changes. -/
theorem eventsReplayToOutputs : Obligations.EventsReplayToOutputs := by
  intro s t hobs h
  obtain ⟨-, rfl⟩ | ⟨txn, rest, i, -, -, -, h⟩ := step_cases h
  · exact hobs
  · obtain ⟨es, e⟩ := exec_emits h
    exact e.observed hobs

/-- Settles O25, by induction on the number of steps: each takes one transaction and exchanges what it transmits. -/
theorem oneExchangePerTxdataWrite : Obligations.OneExchangePerTxdataWrite := by
  intro k
  induction k with
  | zero => intro s t h; cases h; simp
  | succ k ih =>
    intro s t h
    obtain ⟨u, hu, h⟩ := run_succ.mp h
    obtain ⟨hsent, hpending⟩ := ih u t h
    obtain ⟨hp, rfl⟩ | ⟨txn, rest, i, hp, hd, -, hu⟩ := step_cases hu
    · rw [hp] at hsent hpending ⊢
      exact ⟨by simpa using hsent, by simpa using hpending⟩
    · obtain ⟨es, e⟩ := exec_emits hu
      have hrest : u.pending = rest := (operationsKeepParametersAndQueue i _ u hu).2.1
      have hfirst : (exchangesOf u.trace).map Prod.fst =
          (exchangesOf s.trace).map Prod.fst ++ (txnTransmits txn).toList := by
        rw [e.trace, exchangesOf_append, List.map_append, e.sent, txnTransmits_of_decode hd]
      rw [hrest] at hsent hpending
      rw [hp, hsent, hfirst]
      refine ⟨?_, hpending⟩
      cases htx : txnTransmits txn <;> simp [htx]

end Sys2Proof.Machine
end

section
/-! The invariants of 10_state.md R50: `UpdateIrq` and `UpdateCs` establish theirs, a store elsewhere keeps them, and so
does every step; and what RESET leaves (70_reset_and_hazards.md R220). -/

namespace Sys2Proof.Machine

/-! ### The invariants under the named operations of R8 -/

theorem State.irqOk_updateIrq (s : State) : s.updateIrq.IrqOk :=
  State.updateIrq_irq_eq s

theorem State.csOk_updateCs (s : State) : s.updateCs.CsOk :=
  ⟨csLevels_length .., fun i hi => (csLevels_getElem? _ _ hi).trans (congrArg some (s.csNow_eq i))⟩

/-- A byte stored in TXDATA has nothing above bit 7 (R140, D8). -/
theorem State.txOk_setReg_txdata (s : State) (b : Byte) : (s.setReg 18 (zext32 b)).TxOk := by
  rw [State.TxOk, State.reg_setReg_same]
  apply BitVec.eq_of_getLsbD_eq
  intro i hi
  simp [zext32]

section
variable {s : State}

theorem State.IrqOk.setReg (h : s.IrqOk) {w : Slot} (h28 : w ≠ 28) (h29 : w ≠ 29) (v : Word) :
    (s.setReg w v).IrqOk := by
  rw [State.IrqOk, State.reg_setReg_ne s v h28.symm, State.reg_setReg_ne s v h29.symm]
  exact h

theorem State.CsOk.setReg (h : s.CsOk) {w : Slot} (h4 : w ≠ 4) (h5 : w ≠ 5) (v : Word) : (s.setReg w v).CsOk := by
  rw [State.CsOk, State.reg_setReg_ne s v h4.symm, State.reg_setReg_ne s v h5.symm]
  exact h

theorem State.TxOk.setReg (h : s.TxOk) {w : Slot} (h18 : w ≠ 18) (v : Word) : (s.setReg w v).TxOk := by
  rw [State.TxOk, State.reg_setReg_ne s v h18.symm]
  exact h

theorem State.CsOk.receive (h : s.CsOk) (tx : Byte) : (s.receive tx).CsOk :=
  State.CsOk.setReg (s := s.exchange tx) h (by decide) (by decide) _

theorem State.TxOk.receive (h : s.TxOk) (tx : Byte) : (s.receive tx).TxOk :=
  State.TxOk.setReg (s := s.exchange tx) h (by decide) _

end

/-- The reset bank, slot by slot (R48). -/
theorem resetBank_getElem (w : Slot) : resetBank[w] = if w = 20 ∨ w = 5 then 1 else if w = 29 then 3 else 0 := by
  revert w; decide

/-- The registers after the register part of RESET (R220). -/
theorem State.reg_resetRegisters (s : State) (w : Slot) :
    s.resetRegisters.reg w = if w = 20 ∨ w = 5 then 1 else if w = 29 then 3 else 0 :=
  resetBank_getElem w

/-- RESET establishes the invariants, whatever held before: its registers are set, then both outputs (R220). -/
theorem State.consistent_reset (s : State) : s.resetRegisters.updateIrq.updateCs.Consistent :=
  ⟨s.resetRegisters.irqOk_updateIrq, State.csOk_updateCs _,
    congrArg (BitVec.extractLsb' 8 24) (s.reg_resetRegisters 18)⟩

/-- An operation keeps the invariants (R50). -/
theorem exec_consistent {i : Instr} {s t : State} (h : s.Consistent) (e : exec i s = .next t) : t.Consistent := by
  have ⟨hirq, hcs, htx⟩ := h
  cases effect_of_exec e with
  | plainRead | oorRead | oorWrite => exact h
  | plainWrite w v hw =>
    have hfree : ∀ u ∈ plainSlots, u ≠ 28 ∧ u ≠ 29 ∧ u ≠ 4 ∧ u ≠ 5 ∧ u ≠ 18 := by decide
    obtain ⟨h28, h29, h4, h5, h18⟩ := hfree w hw
    exact ⟨hirq.setReg h28 h29 v, hcs.setReg h4 h5 v, htx.setReg h18 v⟩
  | ipRead | rxRead =>
    exact ⟨State.irqOk_updateIrq _, hcs.setReg (by decide) (by decide) _, htx.setReg (by decide) _⟩
  | transfer v =>
    exact ⟨State.irqOk_updateIrq _,
      ((hcs.setReg (by decide) (by decide) _).receive _).setReg (by decide) (by decide) _,
      ((s.txOk_setReg_txdata (txByte v)).receive _).setReg (by decide) _⟩
  | ieWrite v | ipWrite v =>
    exact ⟨State.irqOk_updateIrq _, hcs.setReg (by decide) (by decide) v, htx.setReg (by decide) v⟩
  | csidWrite v | csdefWrite v | csmodeWrite v =>
    exact ⟨hirq.setReg (by decide) (by decide) v, State.csOk_updateCs _, htx.setReg (by decide) v⟩
  | reset => exact s.consistent_reset

/-- Settles O43: after the first RESET an operation keeps the invariants, and before it only RESET runs. -/
theorem stepKeepsInvariants : Obligations.StepKeepsInvariants := by
  refine ⟨fun s t hinv h => ?_, fun s => ⟨_, rfl, rfl, s.consistent_reset⟩⟩
  obtain ⟨-, rfl⟩ | ⟨txn, rest, i, -, -, hlive | rfl, h⟩ := step_cases h
  · exact hinv
  · have hrest : State.Consistent { s with pending := rest } := hinv hlive
    exact fun _ => exec_consistent hrest h
  · cases h
    exact fun _ => State.consistent_reset _

/-! ### RESET -/

theorem State.numCs_le (s : State) : s.numCs ≤ 32 := by
  have := s.params.lastCs.isLt
  simp only [State.numCs, Params.numCs]
  omega

/-- With the reset values of CSDEF and CSID, line 0 is selected and idles at 1, and the others idle at 0 (R48, D18). -/
theorem csLevel_reset {i : Nat} (h : i < 32) : csLevel 1 0 i = false := by
  have hall : ∀ j : Fin 32, csLevel 1 0 j.val = false := by decide
  exact hall ⟨i, h⟩

theorem csLevels_reset {n : Nat} (h : n ≤ 32) : csLevels n 1 0 = List.replicate n false := by
  rw [List.eq_replicate_iff]
  refine ⟨csLevels_length .., fun b hb => ?_⟩
  obtain ⟨i, hi, rfl⟩ := List.mem_map.mp hb
  exact csLevel_reset (by have := List.mem_range.mp hi; omega)

/-- What RESET does, as one state (R220). -/
theorem exec_reset (s : State) : exec .reset s = .next { s with
    bank := resetBank
    irq := false
    cs := List.replicate s.numCs false
    trace := s.trace ++ (if s.irq = true then [.irq false] else []) ++
      (List.range s.numCs).filterMap (fun i => if s.cs[i]? = some false then none else some (.cs i false))
    live := true
    rdata := none } := by
  have hlevel : s.resetRegisters.irqNow = false := by simp [State.irqNow_eq, State.reg_resetRegisters]
  have hlevels : csLevels s.numCs (s.resetRegisters.reg 5) (s.resetRegisters.reg 4) = List.replicate s.numCs false :=
    (congrArg₂ (csLevels s.numCs) (s.reg_resetRegisters 5) (s.reg_resetRegisters 4)).trans (csLevels_reset s.numCs_le)
  have hirq : s.resetRegisters.irqEvents = if s.irq = true then [.irq false] else [] := by
    have hold : s.resetRegisters.irq = s.irq := rfl
    cases hs : s.irq <;> simp [State.irqEvents, hlevel, hold, hs]
  have hcs : s.resetRegisters.updateIrq.csEvents =
      (List.range s.numCs).filterMap (fun i => if s.cs[i]? = some false then none else some (.cs i false)) := by
    refine List.filterMap_congr fun i hi => ?_
    have hidle : s.resetRegisters.updateIrq.csNow i = false :=
      csLevel_reset (Nat.lt_of_lt_of_le (List.mem_range.mp hi) s.numCs_le)
    rw [hidle]; rfl
  calc exec .reset s = .next { s with
        bank := resetBank
        irq := s.resetRegisters.irqNow
        cs := csLevels s.numCs (s.resetRegisters.reg 5) (s.resetRegisters.reg 4)
        trace := s.trace ++ s.resetRegisters.irqEvents ++ s.resetRegisters.updateIrq.csEvents
        live := true
        rdata := none } := rfl
    _ = _ := by rw [hlevel, hlevels, hirq, hcs]

/-- Settles O40: the fields of the state RESET leaves. -/
theorem resetEstablishesResetValues : Obligations.ResetEstablishesResetValues :=
  fun s => ⟨_, exec_reset s, resetBank_getElem, rfl, rfl, rfl, rfl, rfl, rfl, rfl, rfl⟩

/-- RESET changes nothing where every slot and output has its reset value (R220 d). -/
theorem exec_reset_eq_self {s : State} (hbank : s.bank = resetBank) (hirq : s.irq = false)
    (hcs : s.cs = List.replicate s.numCs false) (hlive : s.live = true) (hrdata : s.rdata = none) :
    exec .reset s = .next s := by
  have hevents : (List.range s.numCs).filterMap
      (fun i => if s.cs[i]? = some false then none else some (Event.cs i false)) = [] := by
    rw [List.filterMap_eq_nil_iff]
    intro i hi
    simp [hcs, List.mem_range.mp hi]
  have hquiet : ¬ s.irq = true := by simp [hirq]
  rw [exec_reset, hevents, if_neg hquiet, List.append_nil, List.append_nil, ← hbank, ← hcs, ← hirq, ← hlive, ← hrdata]

/-- Settles O42: the second RESET finds every slot and output at its reset value. -/
theorem resetTwiceIsResetOnce : Obligations.ResetTwiceIsResetOnce :=
  fun s => ⟨_, exec_reset s, exec_reset_eq_self rfl rfl rfl rfl rfl⟩

/-- Settles O41: the fields of the reset state. -/
theorem resetStateHoldsResetValues : Obligations.ResetStateHoldsResetValues :=
  ⟨fun _ => ⟨resetBank_getElem, rfl, rfl⟩, rfl, rfl, rfl⟩

/-- Settles O44: the reset state is what RESET leaves of it, and nothing was observed. -/
theorem resetStateMeetsInvariants : Obligations.ResetStateMeetsInvariants := by
  intro p
  have hreset : exec .reset (State.resetWith p) = .next (State.resetWith p) := exec_reset_eq_self rfl rfl rfl rfl rfl
  have hconsistent : (State.resetWith p).Consistent := by
    have h : execReset (State.resetWith p) = .next (State.resetWith p) := hreset
    rw [execReset, State.complete_eq_next] at h
    rw [h]
    exact State.consistent_reset _
  exact ⟨rfl, hconsistent, rfl, rfl⟩

/-! ### What the invariants say of the outputs -/

/-- CSID names line `i`, a comparison with the zero-extended index (R180, D17). -/
theorem eq_ofNat_iff_toNat_eq {v : Word} {i : Nat} (h : i < 32) : v = BitVec.ofNat 32 i ↔ v.toNat = i := by
  rw [← BitVec.toNat_inj, BitVec.toNat_ofNat, Nat.mod_eq_of_lt (by omega)]

/-- Under I-cs the selected line is the one CSID names (43_chip_select.md R187). -/
theorem State.CsOk.selected_iff {s : State} (h : s.CsOk) (i : Nat) :
    s.selected i ↔ i < s.numCs ∧ (s.reg 4).toNat = i := by
  obtain ⟨hlength, hlevel⟩ := h
  by_cases hi : i < s.numCs
  · have hname := eq_ofNat_iff_toNat_eq (v := s.reg 4) (Nat.lt_of_lt_of_le hi s.numCs_le)
    rw [State.selected, hlevel i hi, ← hname]
    cases (s.reg 5).getLsbD i <;> simp [hi]
  · have hnone : s.cs[i]? = none := List.getElem?_eq_none (by omega)
    simp [State.selected, hnone, hi]

/-- Under I-cs a line that CSID does not name is at its idle level (R180). -/
theorem State.CsOk.idle {s : State} (h : s.CsOk) {i : Nat} (hi : i < s.numCs) (hne : (s.reg 4).toNat ≠ i) :
    s.cs[i]? = some ((s.reg 5).getLsbD i) := by
  have hname := eq_ofNat_iff_toNat_eq (v := s.reg 4) (Nat.lt_of_lt_of_le hi s.numCs_le)
  simp [h.2 i hi, hname, hne]

/-- Settles O38: a selected line is the one CSID names. -/
theorem atMostOneLineSelected : Obligations.AtMostOneLineSelected := by
  intro s hlive hinv
  obtain ⟨-, hcs, -⟩ := hinv hlive
  refine ⟨hcs.selected_iff, fun i j hi hj => ?_⟩
  have hi := (hcs.selected_iff i).mp hi
  have hj := (hcs.selected_iff j).mp hj
  exact hi.2.symm.trans hj.2

/-- Settles O50: the invariants give both outputs from the bank and `NUM_CS`. -/
theorem outputsAreFunctionsOfTheBank : Obligations.OutputsAreFunctionsOfTheBank := by
  intro s t hs ht hsinv htinv hbank hparams
  obtain ⟨hirq, ⟨hlength, hlevel⟩, -⟩ := hsinv hs
  obtain ⟨hirq', ⟨hlength', hlevel'⟩, -⟩ := htinv ht
  have hreg := (State.bank_eq_iff s t).mp (Vector.toList_inj.mp hbank)
  have hnum : s.numCs = t.numCs := congrArg Params.numCs hparams
  refine ⟨by rw [hirq, hirq', hreg 28, hreg 29], List.ext_getElem? fun i => ?_⟩
  by_cases hi : i < s.numCs
  · rw [hlevel i hi, hlevel' i (hnum ▸ hi), hreg 4, hreg 5]
  · rw [List.getElem?_eq_none (by omega), List.getElem?_eq_none (by omega)]

end Sys2Proof.Machine
end

section
/-! Slots and reads over all operations (40_register_bank.md, 20_memory.md R63, R66): the unnamed slots, the watermark
registers, the locations out of range, and which operation writes which slot. -/

namespace Sys2Proof.Machine

/-- Settles O14: each of the 14 slots is plain, and 0 in the reset bank. -/
theorem unnamedSlotReads : Obligations.UnnamedSlotReads :=
  ⟨storedRead_of_mem_plainSlots (w := 2) (by decide) (by decide),
    storedRead_of_mem_plainSlots (w := 3) (by decide) (by decide),
    storedRead_of_mem_plainSlots (w := 7) (by decide) (by decide),
    storedRead_of_mem_plainSlots (w := 8) (by decide) (by decide),
    storedRead_of_mem_plainSlots (w := 9) (by decide) (by decide),
    storedRead_of_mem_plainSlots (w := 12) (by decide) (by decide),
    storedRead_of_mem_plainSlots (w := 13) (by decide) (by decide),
    storedRead_of_mem_plainSlots (w := 14) (by decide) (by decide),
    storedRead_of_mem_plainSlots (w := 15) (by decide) (by decide),
    storedRead_of_mem_plainSlots (w := 17) (by decide) (by decide),
    storedRead_of_mem_plainSlots (w := 22) (by decide) (by decide),
    storedRead_of_mem_plainSlots (w := 23) (by decide) (by decide),
    storedRead_of_mem_plainSlots (w := 26) (by decide) (by decide),
    storedRead_of_mem_plainSlots (w := 27) (by decide) (by decide)⟩

/-- Settles O15: each of the 14 slots is plain. -/
theorem unnamedSlotWrites : Obligations.UnnamedSlotWrites :=
  ⟨storedWrite_of_mem_plainSlots (w := 2) (by decide),
    storedWrite_of_mem_plainSlots (w := 3) (by decide),
    storedWrite_of_mem_plainSlots (w := 7) (by decide),
    storedWrite_of_mem_plainSlots (w := 8) (by decide),
    storedWrite_of_mem_plainSlots (w := 9) (by decide),
    storedWrite_of_mem_plainSlots (w := 12) (by decide),
    storedWrite_of_mem_plainSlots (w := 13) (by decide),
    storedWrite_of_mem_plainSlots (w := 14) (by decide),
    storedWrite_of_mem_plainSlots (w := 15) (by decide),
    storedWrite_of_mem_plainSlots (w := 17) (by decide),
    storedWrite_of_mem_plainSlots (w := 22) (by decide),
    storedWrite_of_mem_plainSlots (w := 23) (by decide),
    storedWrite_of_mem_plainSlots (w := 26) (by decide),
    storedWrite_of_mem_plainSlots (w := 27) (by decide)⟩

/-- Settles O16: both marks are plain slots. -/
theorem watermarkRegistersAreStorage : Obligations.WatermarkRegistersAreStorage :=
  ⟨storedRead_of_mem_plainSlots (w := 20) (by decide) (by decide), storedWrite_of_mem_plainSlots (w := 20) (by decide),
    storedRead_of_mem_plainSlots (w := 21) (by decide) (by decide), storedWrite_of_mem_plainSlots (w := 21) (by decide)⟩

/-- Settles O17: the effect of RD.OOR. -/
theorem outOfRangeReadsReturnZero : Obligations.OutOfRangeReadsReturnZero :=
  fun widx _ => exec_of_effect (.oorRead widx)

/-- Settles O18: the effect of WR.OOR. -/
theorem outOfRangeWritesAreDropped : Obligations.OutOfRangeWritesAreDropped :=
  fun widx v _ => exec_of_effect (.oorWrite widx v)

/-- Settles O49: a word index is out of range, or a slot whose read has no side effect here. -/
theorem readsWithoutSideEffect : Obligations.ReadsWithoutSideEffect := by
  intro widx s hip hrx
  obtain h | ⟨u, rfl⟩ := wordIndex_cases widx
  · rw [readOperation_of_le h, dif_neg (Nat.not_lt.mpr h)]
    exact exec_of_effect (.oorRead widx)
  · have h29 : u ≠ 29 := by rintro rfl; exact hip rfl
    have h19 : u = 19 → s.params.rxdataRdSetsRxwm = false := by rintro rfl; exact hrx rfl
    have hval : (BitVec.ofNat 30 u.val).toNat = u.val := by
      rw [BitVec.toNat_ofNat, Nat.mod_eq_of_lt (by omega)]
    rw [exec_readOperation h29 h19]
    simp only [hval, u.isLt, dite_true]

/-- A slot that a store changed is the slot stored to. -/
theorem State.eq_of_reg_setReg_ne {s : State} {w u : Slot} {v : Word} (h : (s.setReg w v).reg u ≠ s.reg u) : u = w := by
  by_contra hne
  exact h (State.reg_setReg_ne s v hne)

/-- A transfer before TXWM is set: the byte sent and its answer are stored (41_transfer_engine.md R140). -/
def State.loadData (s : State) (tx : Byte) : State := (s.setReg 18 (zext32 tx)).receive tx

theorem exec_wrTxdata (v : Word) (s : State) :
    exec (.wrTxdata v) s = .next { (s.loadData (txByte v)).pendTx with rdata := none } := rfl

theorem State.reg_loadData_txdata (s : State) (tx : Byte) : (s.loadData tx).reg 18 = zext32 tx :=
  (State.reg_receive_ne _ tx (by decide)).trans (State.reg_setReg_same s 18 _)

theorem State.reg_loadData_rxdata (s : State) (tx : Byte) : (s.loadData tx).reg 19 = zext32 (s.answer tx) :=
  State.reg_receive_rxdata _ tx

theorem State.reg_loadData_ne (s : State) (tx : Byte) {w : Slot} (h18 : w ≠ 18) (h19 : w ≠ 19) :
    (s.loadData tx).reg w = s.reg w :=
  (State.reg_receive_ne _ tx h19).trans (State.reg_setReg_ne s _ h18)

/-- Settles O48: each effect stores to the slots of its operation only. -/
theorem slotsWrittenOnlyByTheirOperations : Obligations.SlotsWrittenOnlyByTheirOperations := by
  intro i s t w h hne
  cases effect_of_exec h with
  | plainRead | oorRead | oorWrite => exact absurd rfl hne
  | plainWrite u v =>
    obtain rfl := State.eq_of_reg_setReg_ne hne
    exact .inl ⟨v, rfl⟩
  | ieWrite v | ipWrite v | csidWrite v | csdefWrite v | csmodeWrite v =>
    obtain rfl := State.eq_of_reg_setReg_ne hne
    exact .inl ⟨v, rfl⟩
  | reset => exact .inr (.inl rfl)
  | transfer v =>
    refine .inr (.inr (.inl ⟨⟨v, rfl⟩, ?_⟩))
    by_contra hw
    obtain ⟨h18, h19, h29⟩ : w ≠ 18 ∧ w ≠ 19 ∧ w ≠ 29 := by simpa using hw
    exact hne ((State.reg_pendTx_ne _ h29).trans (s.reg_loadData_ne _ h18 h19))
  | ipRead => exact .inr (.inr (.inr (.inl ⟨rfl, State.eq_of_reg_setReg_ne hne⟩)))
  | rxRead hrx => exact .inr (.inr (.inr (.inr ⟨rfl, hrx, State.eq_of_reg_setReg_ne hne⟩)))

end Sys2Proof.Machine
end

section
/-! The interrupt logic (42_interrupt_logic.md): the level and the event of `UpdateIrq` after a store to IP or IE, the
operations on both registers, and which operations pend a source or move an output. -/

namespace Sys2Proof.Machine

/-! ### `UpdateIrq` after a store -/

/-- `UpdateIrq` where the level it computes is known (R160). -/
theorem State.updateIrq_of_irqNow {s : State} {l : Bool} (h : s.irqNow = l) :
    s.updateIrq = { s with irq := l, trace := s.trace ++ if l = s.irq then [] else [.irq l] } := by
  subst h; rfl

theorem State.irqNow_setReg_ip (s : State) (v : Word) : (s.setReg 29 v).irqNow = decide (v &&& s.reg 28 ≠ 0) := by
  rw [State.irqNow_eq, State.reg_setReg_same, State.reg_setReg_ne s v (by decide)]

theorem State.irqNow_setReg_ie (s : State) (v : Word) : (s.setReg 28 v).irqNow = decide (s.reg 29 &&& v ≠ 0) := by
  rw [State.irqNow_eq, State.reg_setReg_same, State.reg_setReg_ne s v (by decide)]

/-- Settles O28: the store gives the level `UpdateIrq` computes. -/
theorem writeIeReevaluatesIrq : Obligations.WriteIeReevaluatesIrq :=
  ⟨writeEncoded_writeOperation 28, fun v s =>
    congrArg State.complete (State.updateIrq_of_irqNow (s.irqNow_setReg_ie v))⟩

/-- Settles O29: the store gives the level `UpdateIrq` computes. -/
theorem writeIpReplacesPendingBits : Obligations.WriteIpReplacesPendingBits :=
  ⟨writeEncoded_writeOperation 29, fun v s =>
    congrArg State.complete (State.updateIrq_of_irqNow (s.irqNow_setReg_ip v))⟩

/-! ### Reads that set RXWM -/

theorem setRxwm_setRxwm (ip : Word) : setRxwm (setRxwm ip) = setRxwm ip := by
  simp [setRxwm, BitVec.or_assoc]

/-- Setting RXWM changes nothing where it is set and `irq` has its level (R163 d). -/
theorem State.pendRx_eq_self {s : State} (hip : setRxwm (s.reg 29) = s.reg 29) (hirq : s.irqNow = s.irq) :
    s.pendRx = s := by
  rw [State.pendRx, Slot.ip_eq, hip, State.setReg_reg_self, State.updateIrq_eq_self hirq]

/-- Settles O30: RXWM is stored, which gives the level `UpdateIrq` computes. -/
theorem readIpSetsRxwm : Obligations.ReadIpSetsRxwm :=
  ⟨readEncoded_readOperation 29, fun s =>
    (exec_of_effect .ipRead).trans
      (congrArg (State.returns · _) (State.updateIrq_of_irqNow (s.irqNow_setReg_ip (setRxwm (s.reg 29)))))⟩

/-- Settles O31: the first read leaves RXWM set and `irq` at its level. -/
theorem readIpTwiceIsReadIpOnce : Obligations.ReadIpTwiceIsReadIpOnce := by
  intro s
  refine ⟨_, exec_of_effect .ipRead, setRxwm (s.reg 29), ?_, rfl, by simp [setRxwm]⟩
  have hip : s.pendRx.reg 29 = setRxwm (s.reg 29) := s.reg_pendRx_ip
  generalize some (if s.params.ipRdReturnsUpdated then setRxwm (s.reg 29) else s.reg 29) = r
  have hagain : State.pendRx { s.pendRx with rdata := r } = { s.pendRx with rdata := r } :=
    State.pendRx_eq_self ((congrArg setRxwm hip).trans ((setRxwm_setRxwm _).trans hip.symm)) rfl
  have hread := exec_of_effect (s := { s.pendRx with rdata := r }) .ipRead
  have hvalue : State.reg { s.pendRx with rdata := r } 29 = setRxwm (s.reg 29) := hip
  rw [hagain, hvalue, setRxwm_setRxwm, ite_self] at hread
  exact hread

/-! ### Which operation pends, enables or moves -/

/-- Settles O33: IP and IE are slots, so their writers are those of O48. -/
theorem onlyInterruptOperationsChangeIpOrIe : Obligations.OnlyInterruptOperationsChangeIpOrIe := by
  intro i s t h
  refine ⟨fun hip => ?_, fun hie => ?_⟩
  · obtain ⟨v, hi⟩ | hi | ⟨hi, -⟩ | ⟨hi, -⟩ | ⟨hi, hrx, -⟩ := slotsWrittenOnlyByTheirOperations i s t 29 h hip
    · exact .inr (.inr (.inl ⟨v, hi⟩))
    · exact .inr (.inr (.inr (.inl hi)))
    · exact .inl hi
    · exact .inr (.inl hi)
    · exact .inr (.inr (.inr (.inr ⟨hi, hrx⟩)))
  · obtain ⟨v, hi⟩ | hi | ⟨-, hw⟩ | ⟨-, hw⟩ | ⟨-, -, hw⟩ := slotsWrittenOnlyByTheirOperations i s t 28 h hie
    · exact .inl ⟨v, hi⟩
    · exact .inr hi
    all_goals exact absurd hw (by decide)

/-- Settles O39: an effect without `UpdateIrq` leaves `irq`, and one without `UpdateCs` the lines. -/
theorem outputsMoveOnlyUnderTheirOperations : Obligations.OutputsMoveOnlyUnderTheirOperations := by
  intro i s t h
  cases effect_of_exec h with
  | plainRead | oorRead | oorWrite | plainWrite => exact ⟨absurd rfl, absurd rfl, absurd rfl⟩
  | transfer v => exact ⟨fun _ => .inl ⟨v, rfl⟩, absurd rfl, fun _ => absurd rfl⟩
  | rxRead hrx => exact ⟨fun _ => .inr (.inl ⟨rfl, hrx⟩), absurd rfl, fun _ => absurd rfl⟩
  | ieWrite v => exact ⟨fun _ => .inr (.inr (.inl ⟨v, rfl⟩)), absurd rfl, fun _ => absurd rfl⟩
  | ipRead => exact ⟨fun _ => .inr (.inr (.inr (.inl rfl))), absurd rfl, fun _ => absurd rfl⟩
  | ipWrite v => exact ⟨fun _ => .inr (.inr (.inr (.inr (.inl ⟨v, rfl⟩)))), absurd rfl, fun _ => absurd rfl⟩
  | csidWrite v => exact ⟨absurd rfl, fun _ => .inl ⟨v, rfl⟩, absurd rfl⟩
  | csdefWrite v => exact ⟨absurd rfl, fun _ => .inr (.inl ⟨v, rfl⟩), absurd rfl⟩
  | csmodeWrite v => exact ⟨absurd rfl, fun _ => .inr (.inr (.inl ⟨v, rfl⟩)), absurd rfl⟩
  | reset => exact ⟨fun _ => .inr (.inr (.inr (.inr (.inr rfl)))), fun _ => .inr (.inr (.inr rfl)), fun _ _ => rfl⟩

/-- In every state with the parameters and the IP of `s`, whatever its IE, operation `i` leaves IP = `p` and `irq` at the
level of IP and IE, and enables no source where none was enabled. -/
abbrev LeavesPending (s : State) (i : Instr) (p : Word) : Prop :=
  ∀ u : State, u.params = s.params → u.reg 29 = s.reg 29 →
    ∃ t, exec i u = .next t ∧ t.reg 29 = p ∧ t.IrqOk ∧ (u.reg 28 = 0 → t.reg 28 = 0)

/-- A store to IP followed by `UpdateIrq` leaves what was stored, and IE as it was. -/
theorem State.pending_setReg_ip (u x : State) {q p : Word} (hq : q = p) (hie : x.reg 28 = u.reg 28) :
    (x.setReg 29 q).updateIrq.reg 29 = p ∧ (x.setReg 29 q).updateIrq.IrqOk ∧
      (u.reg 28 = 0 → (x.setReg 29 q).updateIrq.reg 28 = 0) :=
  ⟨(State.reg_setReg_same x 29 q).trans hq, State.irqOk_updateIrq _,
    ((State.reg_setReg_ne x q (by decide)).trans hie).trans⟩

/-- An event of a source leaves its bit of IP set, by no more than the IP and the parameters it finds (R166, R201). -/
theorem State.makesPending.leavesPending {s : State} {i : Instr} {n : Nat} (h : s.makesPending i n) :
    ∃ p : Word, p.getLsbD n = true ∧ LeavesPending s i p := by
  obtain ⟨⟨v, rfl⟩, rfl⟩ | ⟨rfl, rfl⟩ | ⟨rfl, hrx, rfl⟩ | ⟨⟨v, rfl, hbit⟩, -⟩ | ⟨rfl, hn⟩ := h
  · refine ⟨setTxwm (s.reg 29), by simp [setTxwm], fun u _ hip => ⟨_, exec_wrTxdata v u, ?_⟩⟩
    have hloaded : (u.loadData (txByte v)).reg 29 = s.reg 29 := (u.reg_loadData_ne _ (by decide) (by decide)).trans hip
    exact State.pending_setReg_ip u (u.loadData (txByte v)) (congrArg setTxwm hloaded)
      (u.reg_loadData_ne _ (by decide) (by decide))
  · exact ⟨setRxwm (s.reg 29), by simp [setRxwm], fun u _ hip =>
      ⟨_, exec_of_effect .ipRead, State.pending_setReg_ip u u (congrArg setRxwm hip) rfl⟩⟩
  · exact ⟨setRxwm (s.reg 29), by simp [setRxwm], fun u hparams hip =>
      ⟨_, exec_of_effect (.rxRead (hparams ▸ hrx)), State.pending_setReg_ip u u (congrArg setRxwm hip) rfl⟩⟩
  · exact ⟨v, hbit, fun u _ _ => ⟨_, exec_of_effect (.ipWrite v), State.pending_setReg_ip u u rfl rfl⟩⟩
  · exact ⟨3, (getLsbD_resetIp n).trans (decide_eq_true hn), fun u _ _ => ⟨_, exec_of_effect .reset,
      u.reg_resetRegisters 29, u.consistent_reset.1, fun _ => u.reg_resetRegisters 28⟩⟩

/-- Two words that share a bit have a non-zero AND. -/
theorem and_ne_zero_of_getLsbD {x y : Word} {n : Nat} (hx : x.getLsbD n = true) (hy : y.getLsbD n = true) :
    x &&& y ≠ 0 := by
  intro h
  have hbit := BitVec.getLsbD_and (x := x) (y := y) (i := n)
  simp [h, hx, hy] at hbit

/-- Settles O34: an event pends its source by the IP it finds, and enabling that source alone then raises `irq`. -/
theorem pendingIsIndependentOfEnable : Obligations.PendingIsIndependentOfEnable := by
  intro s i n h
  obtain ⟨p, hbit, hleaves⟩ := h.leavesPending
  obtain ⟨t, e, hip, hirq, hie⟩ := hleaves s rfl rfl
  refine ⟨fun v => ?_, fun hdisabled => ?_⟩
  · obtain ⟨t', e', hip', -, -⟩ := hleaves (s.setReg 28 v) rfl (State.reg_setReg_ne s v (by decide))
    exact ⟨t, t', e, e', hip'.trans hip.symm, hip ▸ hbit⟩
  · refine ⟨t, _, e, ?_, writeIeReevaluatesIrq.2 _ t, ?_⟩
    · simp [hirq, hie hdisabled]
    · have hn : n < 32 := BitVec.lt_of_getLsbD hbit
      have hmask : (BitVec.ofNat 32 (2 ^ n)).getLsbD n = true := by
        simp [BitVec.getLsbD_ofNat, hn, -BitVec.ofNat_pow]
      exact decide_eq_true (and_ne_zero_of_getLsbD (hip ▸ hbit) hmask)

end Sys2Proof.Machine
end

section
/-! The transfer engine (41_transfer_engine.md): what a write of TXDATA does, the reads and writes of TXDATA and RXDATA,
that transfers and polls only raise `irq`, and the pseudo-operation XFER (30_encoding.md R87). -/

namespace Sys2Proof.Machine

/-- The collaborator's answer where it is set (R141). -/
theorem State.answer_of_cons {s : State} {r : Byte} {rest : List Byte} (h : s.answers = r :: rest) (tx : Byte) :
    s.answer tx = r := by
  simp only [State.answer, h]

/-- The collaborator's answer where none is set: the free value (R141). -/
theorem State.answer_of_nil {s : State} (h : s.answers = []) (tx : Byte) :
    s.answer tx = Config.serialAnswer s.trace s.cs tx := by
  simp only [State.answer, h]

/-- Settles O20: the data registers are loaded, TXWM is set, and `UpdateIrq` evaluates IP and IE. -/
theorem writeTxdataTransfers : Obligations.WriteTxdataTransfers := by
  intro v s
  have hip : (s.loadData (txByte v)).reg 29 = s.reg 29 := s.reg_loadData_ne _ (by decide) (by decide)
  have hie : (s.loadData (txByte v)).reg 28 = s.reg 28 := s.reg_loadData_ne _ (by decide) (by decide)
  have hirq : (s.loadData (txByte v)).pendTx.irq = decide (setTxwm (s.reg 29) &&& s.reg 28 ≠ 0) := by
    rw [← hip, ← hie]
    exact State.irqNow_setReg_ip _ _
  refine ⟨s.answer (txByte v), _, exec_wrTxdata v s,
    fun r rest ha => ⟨State.answer_of_cons ha _, congrArg List.tail ha⟩,
    fun ha => ⟨State.answer_of_nil ha _, congrArg List.tail ha⟩, ?_, ?_, ?_, ?_, hirq, List.append_assoc .., rfl, rfl,
    rfl, rfl, rfl⟩
  · exact (State.reg_pendTx_ne _ (by decide)).trans (s.reg_loadData_txdata _)
  · exact (State.reg_pendTx_ne _ (by decide)).trans (s.reg_loadData_rxdata _)
  · exact (State.reg_pendTx_ip _).trans (congrArg setTxwm hip)
  · exact fun w h18 h19 h29 => (State.reg_pendTx_ne _ h29).trans (s.reg_loadData_ne _ h18 h19)

/-- Settles O21: the recorded exchange of the transfer is the one whose answer RXDATA receives. -/
theorem receivedByteIsTheAnswer : Obligations.ReceivedByteIsTheAnswer := by
  intro v s
  obtain ⟨rx, t, h, hset, -, -, h19, h29, -, -, htrace, -⟩ := writeTxdataTransfers v s
  refine ⟨rx, t, h, ?_, h19, by simp [h29], fun r rest ha => (hset r rest ha).1⟩
  rw [htrace, exchangesOf_append]
  split <;> rfl

/-- A slot is a zero-extended byte where it has nothing above bit 7. -/
theorem eq_setWidth_of_extractLsb'_eq_zero {v : Word} (h : v.extractLsb' 8 24 = 0) :
    v = (v.extractLsb' 0 8).setWidth 32 := by
  apply BitVec.eq_of_getLsbD_eq
  intro i hi
  by_cases h8 : i < 8
  · simp [h8, hi]
  · have hbit := congrArg (·.getLsbD (i - 8)) h
    have hindex : 8 + (i - 8) = i := by omega
    simpa [h8, hindex, show i - 8 < 24 by omega] using hbit

/-- Settles O22: the read of TXDATA is plain, and I-tx says that the slot is a byte. -/
theorem readTxdataReturnsByteWritten : Obligations.ReadTxdataReturnsByteWritten := by
  have hread : PlainRead .rdTxdata 18 := plainRead_readOperation (w := 18) (by decide) (by decide)
  refine ⟨readEncoded_readOperation 18, hread, fun v s => ?_, fun s hlive hinv => ?_, fun _ => rfl⟩
  · obtain ⟨_, t, h, -, -, h18, -⟩ := writeTxdataTransfers v s
    exact ⟨t, h, h18 ▸ hread t⟩
  · obtain ⟨-, -, htx⟩ := hinv hlive
    refine ⟨(s.reg 18).extractLsb' 0 8, ?_⟩
    rw [hread s, ← eq_setWidth_of_extractLsb'_eq_zero htx]

/-- Settles O23: the two settings of `RXDATA_RD_SETS_RXWM`. -/
theorem readRxdataReturnsByteReceived : Obligations.ReadRxdataReturnsByteReceived := by
  refine ⟨readEncoded_readOperation 19, fun s => ?_⟩
  cases h : s.params.rxdataRdSetsRxwm with
  | false => exact ⟨_, execRdRxdata_of_false h, rfl, rfl, rfl, fun _ => rfl, nofun⟩
  | true =>
    have htrace : exchangesOf s.pendRx.trace = exchangesOf s.trace := by
      rw [State.pendRx, State.updateIrq_trace, exchangesOf_append, exchangesOf_irqEvents, List.append_nil]; rfl
    exact ⟨_, execRdRxdata_of_true h, rfl, htrace, s.reg_pendRx_ne (by decide), nofun,
      fun _ => congrArg (fun u : State => { u with rdata := some (s.reg 19) })
        (State.updateIrq_of_irqNow (s.irqNow_setReg_ip (setRxwm (s.reg 29))))⟩

/-- Settles O24: RXDATA is a plain slot, and its read returns it under both settings. -/
theorem writeRxdataStores : Obligations.WriteRxdataStores := by
  have hwrite : PlainWrite .wrRxdata 19 := plainWrite_writeOperation (w := 19) (by decide)
  refine ⟨writeEncoded_writeOperation 19, hwrite, fun v s => ?_⟩
  obtain ⟨u, hu, hrdata, -⟩ := readRxdataReturnsByteReceived.2 { s.setReg 19 v with rdata := none }
  exact ⟨_, u, hwrite v s, hu, hrdata.trans (congrArg some (State.reg_setReg_same s 19 v))⟩

/-! ### `irq` after a source pends -/

/-- The AND with one bit set is non-zero where that bit is enabled, or the AND was (R160). -/
theorem or_twoPow_and_ne_zero (ip ie : Word) {n : Nat} (hn : n < 32) :
    decide ((ip ||| BitVec.twoPow 32 n) &&& ie ≠ 0) = (decide (ip &&& ie ≠ 0) || ie.getLsbD n) := by
  have hbit : BitVec.twoPow 32 n ≠ 0#32 := by
    intro h
    have := congrArg (·.getLsbD n) h
    simp [hn] at this
  rw [BitVec.and_or_distrib_right, BitVec.twoPow_and]
  cases ie.getLsbD n <;> simp [hbit]

/-- Settles O26: a source that pends sets one bit of IP, and I-irq gives the level before. -/
theorem transfersAndPollsOnlyRaiseIrq : Obligations.TransfersAndPollsOnlyRaiseIrq := by
  intro s hlive hinv
  obtain ⟨hirq, -, -⟩ := hinv hlive
  have hbit0 := or_twoPow_and_ne_zero (s.reg 29) (s.reg 28) (n := 0) (by decide)
  have hbit1 := or_twoPow_and_ne_zero (s.reg 29) (s.reg 28) (n := 1) (by decide)
  rw [← hirq] at hbit0 hbit1
  refine ⟨fun v => ?_, ⟨_, readIpSetsRxwm.2 s, hbit1⟩, ?_⟩
  · obtain ⟨_, t, h, -, -, -, -, -, -, hlevel, -⟩ := writeTxdataTransfers v s
    exact ⟨t, h, hlevel.trans hbit0⟩
  · obtain ⟨t, h, -, -, -, hoff, hon⟩ := readRxdataReturnsByteReceived.2 s
    refine ⟨t, h, ?_⟩
    cases hrx : s.params.rxdataRdSetsRxwm with
    | false => rw [hoff hrx]; simp
    | true => rw [hon hrx]; exact hbit1

/-! ### XFER -/

/-- A step runs a well-formed operation whose transaction is next (R85). -/
theorem step_of_encode {s : State} {i : Instr} {rest : List Txn} (hlive : s.live = true) (hi : i.wellFormed = true)
    (hp : s.pending = encode i :: rest) : step s = exec i { s with pending := rest } :=
  step_of_decode hp (decode_encode hi) (.inl hlive)

/-- Settles O51: the write of TXDATA exchanges the byte, and the read of RXDATA returns the answer. -/
theorem xferReturnsTheAnswer : Obligations.XferReturnsTheAnswer := by
  intro b s rest hlive hp
  obtain ⟨r, u, hu, hexch, h19, -⟩ := receivedByteIsTheAnswer b { s with pending := encode .rdRxdata :: rest }
  obtain ⟨-, hupending, hulive⟩ := operationsKeepParametersAndQueue _ _ _ hu
  have hulive : u.live = true := by simp [hulive, hlive]
  obtain ⟨t, ht, hrdata, hexch', -⟩ := readRxdataReturnsByteReceived.2 { u with pending := rest }
  obtain ⟨-, htpending, -⟩ := operationsKeepParametersAndQueue _ _ _ ht
  have hfirst : step s = .next u := (step_of_encode (i := .wrTxdata b) hlive rfl hp).trans hu
  have hsecond : step u = .next t := (step_of_encode (i := .rdRxdata) hulive rfl hupending).trans ht
  refine ⟨t, r, run_succ.mpr ⟨u, hfirst, run_succ.mpr ⟨t, hsecond, rfl⟩⟩, ?_, hexch'.trans hexch, htpending⟩
  exact hrdata.trans (congrArg some h19)

end Sys2Proof.Machine
end

section
/-! The chip-select driver (43_chip_select.md): the reads of the control registers, what a write of CSID, CSDEF or
CSMODE drives, and the pseudo-operation DESELECT (30_encoding.md R87). -/

namespace Sys2Proof.Machine

/-- A plain read returns what a write left in its slot. -/
theorem PlainRead.readsBack_of_reg {rd : Instr} {wr : Word → Instr} {w : Slot} (hrd : PlainRead rd w)
    (hwr : ∀ v s, ∃ t, exec (wr v) s = .next t ∧ t.reg w = v) : ReadsBack rd wr := by
  intro v s
  obtain ⟨t, h, hv⟩ := hwr v s
  exact ⟨t, h, by rw [hrd, hv]⟩

/-- Settles O27: each register has a plain read, and its write stores before it drives an output. -/
theorem controlRegisterReads : Obligations.ControlRegisterReads := by
  have hie : PlainRead .rdIe 28 := plainRead_readOperation (w := 28) (by decide) (by decide)
  have hcsid : PlainRead .rdCsid 4 := plainRead_readOperation (w := 4) (by decide) (by decide)
  have hcsdef : PlainRead .rdCsdef 5 := plainRead_readOperation (w := 5) (by decide) (by decide)
  have hcsmode : PlainRead .rdCsmode 6 := plainRead_readOperation (w := 6) (by decide) (by decide)
  exact ⟨
    readEncoded_readOperation 28, hie, hie.readsBack_of_reg fun v s => ⟨_, rfl, State.reg_setReg_same s 28 v⟩,
    fun _ => rfl,
    readEncoded_readOperation 4, hcsid, hcsid.readsBack_of_reg fun v s => ⟨_, rfl, State.reg_setReg_same s 4 v⟩,
    fun _ => rfl,
    readEncoded_readOperation 5, hcsdef, hcsdef.readsBack_of_reg fun v s => ⟨_, rfl, State.reg_setReg_same s 5 v⟩,
    fun _ => rfl,
    readEncoded_readOperation 6, hcsmode, hcsmode.readsBack_of_reg fun v s => ⟨_, rfl, State.reg_setReg_same s 6 v⟩,
    fun _ => rfl⟩

/-- `UpdateCs` where the levels it computes are known (R180). -/
theorem State.updateCs_of_csNow {s : State} {f : Nat → Bool} (h : ∀ i, s.csNow i = f i) :
    s.updateCs = { s with
      cs := (List.range s.numCs).map f
      trace := s.trace ++ (List.range s.numCs).filterMap fun i =>
        if s.cs[i]? = some (f i) then none else some (.cs i (f i)) } := by
  obtain rfl : s.csNow = f := funext h
  rfl

theorem State.csNow_setReg_csid (s : State) (v : Word) (i : Nat) :
    (s.setReg 4 v).csNow i = ((s.reg 5).getLsbD i ^^ decide (v = BitVec.ofNat 32 i)) := by
  rw [State.csNow_eq, State.reg_setReg_same, State.reg_setReg_ne s v (by decide)]

theorem State.csNow_setReg_csdef (s : State) (v : Word) (i : Nat) :
    (s.setReg 5 v).csNow i = (v.getLsbD i ^^ decide (s.reg 4 = BitVec.ofNat 32 i)) := by
  rw [State.csNow_eq, State.reg_setReg_same, State.reg_setReg_ne s v (by decide)]

/-- Settles O35: the store gives the levels `UpdateCs` computes. -/
theorem writesOfCsidAndCsdefDriveTheLines : Obligations.WritesOfCsidAndCsdefDriveTheLines :=
  ⟨writeEncoded_writeOperation 4,
    fun v s => congrArg State.complete (State.updateCs_of_csNow (s.csNow_setReg_csid v)),
    writeEncoded_writeOperation 5,
    fun v s => congrArg State.complete (State.updateCs_of_csNow (s.csNow_setReg_csdef v))⟩

/-- Under I-cs `UpdateCs` changes nothing (R186). -/
theorem State.CsOk.updateCs_eq {s : State} (h : s.CsOk) : s.updateCs = s :=
  State.updateCs_eq_self h.1 fun i hi => (h.2 i hi).trans (congrArg some (s.csNow_eq i).symm)

/-- Settles O36: a store to CSMODE keeps I-cs, under which the lines have nowhere to go. -/
theorem writeCsmodeMovesNoLine : Obligations.WriteCsmodeMovesNoLine := by
  refine ⟨writeEncoded_writeOperation 6, neverRead_of_notMem (by decide), fun v s hlive hinv => ?_⟩
  obtain ⟨-, hcs, -⟩ := hinv hlive
  have hstored : (s.setReg 6 v).CsOk := hcs.setReg (by decide) (by decide) v
  exact congrArg State.complete hstored.updateCs_eq

/-- Settles O37: the write leaves I-cs with CSID = v, under which the selected line is line v. -/
theorem selectAssertsExactlyOneLine : Obligations.SelectAssertsExactlyOneLine := by
  intro v s
  have hcs : (s.setReg 4 v).updateCs.CsOk := State.csOk_updateCs _
  have hcsid : (s.setReg 4 v).updateCs.reg 4 = v := State.reg_setReg_same s 4 v
  have hcsdef : (s.setReg 4 v).updateCs.reg 5 = s.reg 5 := State.reg_setReg_ne s v (by decide)
  have hselected (i : Nat) := hcs.selected_iff i
  rw [hcsid] at hselected
  refine ⟨_, rfl, hcs.1, fun i hi => ⟨(hselected i).trans (and_iff_right hi), fun hne => ?_⟩, fun hv i hsel => ?_⟩
  · exact hcsdef ▸ hcs.idle hi (hcsid.symm ▸ hne)
  · obtain ⟨hi, hvi⟩ := (hselected i).mp hsel
    exact absurd (hvi ▸ hi) (Nat.not_lt.mpr hv)

/-- Settles O52: DESELECT writes a CSID that names no line, since there are at most 32. -/
theorem deselectSelectsNoLine : Obligations.DeselectSelectsNoLine := by
  intro s rest hlive hp
  have hstep := step_of_encode (i := .wrCsid 0xFFFFFFFF) hlive rfl hp
  obtain ⟨t, h, -, hlines, hnone⟩ := selectAssertsExactlyOneLine 0xFFFFFFFF { s with pending := rest }
  have hnum : s.numCs ≤ (0xFFFFFFFF : Word).toNat := s.numCs_le.trans (by decide)
  obtain ⟨-, hpending, -⟩ := operationsKeepParametersAndQueue _ _ _ h
  exact ⟨t, hstep.trans h, hpending, hnone hnum, fun i hi => (hlines i hi).2 (Nat.lt_of_lt_of_le hi hnum).ne'⟩

end Sys2Proof.Machine
end

section
/-! The software side of the block (20_memory.md R64, R71). -/

namespace Sys2Proof.Machine

/-- A 32-bit offset from BASE reaches the block (R71). -/
theorem busOffset_add (base : Nat) (offset : Word) : busOffset base (base + offset.toNat) = some offset := by
  have := offset.isLt
  simp [busOffset, this]

/-- Byte `k` of a register is its bits `8k+7` to `8k` (R64, D6). -/
theorem getLsbD_byteLane (v : Word) (k : Fin 4) {j : Nat} (h : j < 8) :
    (byteLane v k).getLsbD j = v.getLsbD (8 * k.val + j) := by
  simp [byteLane, h]

/-- A register is recovered from its bytes at rising addresses (R64, D6). -/
theorem ofByteLanes_byteLane (v : Word) :
    ofByteLanes (byteLane v 0) (byteLane v 1) (byteLane v 2) (byteLane v 3) = v := by
  have h2 : byteLane v 3 ++ byteLane v 2 = v.extractLsb' 16 16 :=
    BitVec.extractLsb'_append_extractLsb'_eq_extractLsb' rfl
  have h1 : v.extractLsb' 16 16 ++ byteLane v 1 = v.extractLsb' 8 24 :=
    BitVec.extractLsb'_append_extractLsb'_eq_extractLsb' rfl
  have h0 : v.extractLsb' 8 24 ++ byteLane v 0 = v.extractLsb' 0 32 :=
    BitVec.extractLsb'_append_extractLsb'_eq_extractLsb' rfl
  rw [ofByteLanes, h2, h1, h0, BitVec.extractLsb'_eq_self]

/-- Settles O53: an address BASE + off has offset off, and the four lanes are adjacent. -/
theorem busAccessesReachTheBlock : Obligations.BusAccessesReachTheBlock := by
  refine ⟨fun base n offset v => ?_, ofByteLanes_byteLane, fun v k _ => getLsbD_byteLane v k⟩
  exact ⟨congrArg _ (busOffset_add base offset), congrArg _ (busOffset_add base offset)⟩

end Sys2Proof.Machine
end
